-- ==== Sys2Proof/Word.lean ====
section
/-! DEFINITION. The word types of FPU-RSC (00_scope.md R10, R11). -/

namespace Sys2Proof

/-- A byte of memory or of the instruction stream. -/
abbrev Byte := BitVec 8

/-- The control, status and tag words (00_scope.md R10, WORD_W = 16). -/
abbrev Word16 := BitVec 16

/-- A single-precision memory operand (00_scope.md R17). -/
abbrev Word32 := BitVec 32

/-- A bus address (00_scope.md R10, ADDR_W = 32; 20_memory.md R56). -/
abbrev Addr := BitVec 32

/-- The contents of a register slot (00_scope.md R10, SLOT_W = 64; 10_state.md R22). -/
abbrev Slot := BitVec 64

/-- `top`, a slot number or the index of `ST(i)`: 3 bits, so its sums wrap modulo 8 (10_state.md R25). -/
abbrev StackIndex := BitVec 3

end Sys2Proof
end

