-- ==== Sys2Proof/Machine/Num.lean ====
section
/-! DEFINITION. The numerics record NUM of 00_scope.md R17 and R18: IEEE-754 binary64 and binary32, rounded to nearest, ties to
even. Every operation converts to exact naturals, computes exactly, and narrows once (`roundMag`). A result that is a NaN is
some NaN: the argument `d` is the draw that chooses which (R17). -/

namespace Sys2Proof.Machine.Num

/-! ## Values -/

/-- What a pattern stands for. A finite value is a sign and a magnitude counted in units of the format's least positive
value: 2^-1074 for binary64, 2^-149 for binary32. -/
inductive Fp where
  | nan
  | inf (neg : Bool)
  | fin (neg : Bool) (mag : Nat)
deriving DecidableEq, Repr

/-- The magnitude of a finite pattern with exponent field `e` and fraction `f` of `frac` bits, in least units. -/
def fieldMag (frac e f : Nat) : Nat := if e = 0 then f else (2 ^ frac + f) <<< (e - 1)

/-- The value of a pattern given by its sign, exponent field and fraction; `top` is the exponent field of all ones. -/
def fieldValue (frac top : Nat) (neg : Bool) (e f : Nat) : Fp :=
  if e = top then (if f = 0 then .inf neg else .nan) else .fin neg (fieldMag frac e f)

/-- The double view of a slot (00_scope.md R17: sign bit 63, exponent 62:52, fraction 51:0). -/
def unpack64 (x : Slot) : Fp :=
  fieldValue 52 2047 x.msb (x.extractLsb' 52 11).toNat (x.extractLsb' 0 52).toNat

/-- The value of a binary32 pattern (00_scope.md R17: sign bit 31, exponent 30:23, fraction 22:0). -/
def unpack32 (w : Word32) : Fp :=
  fieldValue 23 255 w.msb (w.extractLsb' 23 8).toNat (w.extractLsb' 0 23).toNat

/-- Whether a slot holds a NaN. -/
def isNaN (x : Slot) : Bool := unpack64 x == .nan

/-- Whether a slot holds an infinity. -/
def isInf (x : Slot) : Bool := x.extractLsb' 0 63 == 0x7FF0000000000000#63

/-! ## Named patterns (00_scope.md R18) -/

def pinf64 : Slot := 0x7FF0000000000000#64
def ninf64 : Slot := 0xFFF0000000000000#64
def sign64 : Slot := 0x8000000000000000#64
def pzero64 : Slot := 0x0000000000000000#64
def nzero64 : Slot := 0x8000000000000000#64
def half64 : Slot := 0x3FE0000000000000#64
def one64 : Slot := 0x3FF0000000000000#64

/-! ## Narrowing -/

/-- How many bits a natural needs. -/
def bitLen (n : Nat) : Nat := if n = 0 then 0 else Nat.log2 n + 1

/-- `n / 2^k` rounded to the nearest natural, ties to even. -/
def rneShift (n k : Nat) : Nat :=
  let q := n >>> k
  let r := n - q <<< k
  if 1 <<< k < 2 * r ∨ (2 * r = 1 <<< k ∧ q % 2 = 1) then q + 1 else q

/-- The exponent and fraction fields, as one number, of `n` counted in units `2^extra` times finer than the format's least
unit, rounded to nearest even with `frac` fraction bits; it runs past the pattern of infinity when the value overflows. -/
def roundMag (frac extra n : Nat) : Nat :=
  let shift := max (bitLen n - (frac + 1)) extra
  ((shift - extra) <<< frac) + rneShift n shift

/-- A binary64 pattern from a sign and an exact magnitude `n` in units of `2^(-1074 - extra)`; overflow gives infinity. -/
def pack64 (neg : Bool) (extra n : Nat) : Slot :=
  BitVec.ofNat 64 ((if neg then 0x8000000000000000 else 0) + min (roundMag 52 extra n) 0x7FF0000000000000)

/-- A binary32 pattern from a sign and an exact magnitude `n` in units of `2^(-149 - extra)`; overflow gives infinity. -/
def pack32 (neg : Bool) (extra n : Nat) : Word32 :=
  BitVec.ofNat 32 ((if neg then 0x80000000 else 0) + min (roundMag 23 extra n) 0x7F800000)

/-- The infinity of a sign. -/
def inf64 (neg : Bool) : Slot := if neg then ninf64 else pinf64

/-- The infinity of a sign, binary32. -/
def inf32 (neg : Bool) : Word32 := if neg then 0xFF800000#32 else 0x7F800000#32

/-- Some binary64 NaN: the draw with its exponent forced to all ones and a zero fraction moved to 1. Every NaN pattern is
the image of itself (00_scope.md R17). -/
def nan64 (d : Slot) : Slot :=
  let x := d ||| pinf64
  if x.extractLsb' 0 52 = 0#52 then x ||| 1#64 else x

/-- Some binary32 NaN, chosen by the low half of the draw in the same way (00_scope.md R17). -/
def nan32 (d : Slot) : Word32 :=
  let x := d.setWidth 32 ||| 0x7F800000#32
  if x.extractLsb' 0 23 = 0#23 then x ||| 1#32 else x

/-! ## Arithmetic (00_scope.md R17) -/

/-- The sum of two signed magnitudes: sign and magnitude, `+0` when two opposite values cancel. -/
def addSigned (s : Bool) (m : Nat) (t : Bool) (n : Nat) : Bool × Nat :=
  if s = t then (s, m + n)
  else if n < m then (s, m - n)
  else if m < n then (t, n - m)
  else (false, 0)

/-- `FAdd(a, b)`. -/
def fadd (a b d : Slot) : Slot :=
  match unpack64 a, unpack64 b with
  | .nan, _ => nan64 d
  | _, .nan => nan64 d
  | .inf s, .inf t => if s = t then inf64 s else nan64 d
  | .inf s, .fin _ _ => inf64 s
  | .fin _ _, .inf t => inf64 t
  | .fin s m, .fin t n => pack64 (addSigned s m t n).1 0 (addSigned s m t n).2

/-- `FSub(a, b)` = a - b: the sum with the sign of `b` changed. -/
def fsub (a b d : Slot) : Slot := fadd a (b ^^^ sign64) d

/-- `FMul(a, b)`. -/
def fmul (a b d : Slot) : Slot :=
  match unpack64 a, unpack64 b with
  | .nan, _ => nan64 d
  | _, .nan => nan64 d
  | .inf s, .inf t => inf64 (s ^^ t)
  | .inf s, .fin t n => if n = 0 then nan64 d else inf64 (s ^^ t)
  | .fin s m, .inf t => if m = 0 then nan64 d else inf64 (s ^^ t)
  | .fin s m, .fin t n => pack64 (s ^^ t) 1074 (m * n)

/-- The quotient `m / n` in units of 2^-1076, odd when the division leaves a remainder, so that rounding it to binary64 rounds
the exact quotient. -/
def quotientSticky (m n : Nat) : Nat :=
  2 * ((m <<< 1075) / n) + (if (m <<< 1075) % n = 0 then 0 else 1)

/-- `FDiv(a, b)` = a / b. No rule evaluates it with a zero divisor (42_arithmetic.md R145, R146). -/
def fdiv (a b d : Slot) : Slot :=
  match unpack64 a, unpack64 b with
  | .nan, _ => nan64 d
  | _, .nan => nan64 d
  | .inf _, .inf _ => nan64 d
  | .inf s, .fin t _ => inf64 (s ^^ t)
  | .fin s _, .inf t => pack64 (s ^^ t) 0 0
  | .fin s m, .fin t n =>
    if n = 0 then (if m = 0 then nan64 d else inf64 (s ^^ t)) else pack64 (s ^^ t) 2 (quotientSticky m n)

/-! ## Comparison (00_scope.md R17): quiet, false on a NaN, `+0` equal to `-0` -/

/-- The pattern's place in the order of the values that are not NaNs; both zeros are at 0. -/
def orderKey (x : Slot) : Int :=
  if x.msb then -((x.extractLsb' 0 63).toNat : Int) else ((x.extractLsb' 0 63).toNat : Int)

/-- `FEq(a, b)`. -/
def feq (a b : Slot) : Bool := !isNaN a && !isNaN b && orderKey a == orderKey b

/-- `FLt(a, b)`. -/
def flt (a b : Slot) : Bool := !isNaN a && !isNaN b && decide (orderKey a < orderKey b)

/-- `FGt(a, b)`. -/
def fgt (a b : Slot) : Bool := !isNaN a && !isNaN b && decide (orderKey b < orderKey a)

/-- `IsZero(x)`, true of both zeros (00_scope.md R18). -/
def isZero (x : Slot) : Bool := feq x pzero64

/-! ## Conversions (00_scope.md R17) -/

/-- `F32toF64(w)`: exact widening, 2^925 binary64 units to one binary32 unit. -/
def f32ToF64 (w : Word32) (d : Slot) : Slot :=
  match unpack32 w with
  | .nan => nan64 d
  | .inf s => inf64 s
  | .fin s m => pack64 s 0 (m <<< 925)

/-- `F64toF32(x)`: narrowing, ties to even, overflow to the infinity of the same sign. -/
def f64ToF32 (x d : Slot) : Word32 :=
  match unpack64 x with
  | .nan => nan32 d
  | .inf s => inf32 s
  | .fin s m => pack32 s 925 m

/-- `I64toF64(n)`: the binary64 nearest to the signed integer, ties to even. -/
def i64ToF64 (n : BitVec 64) : Slot := pack64 n.msb 0 (n.toInt.natAbs <<< 1074)

/-- A sign and a magnitude as an integer. -/
def signedInt (neg : Bool) (q : Nat) : Int := if neg then -(q : Int) else (q : Int)

/-- Whether an integer fits in 64 bits of two's complement. -/
def fitsI64 (n : Int) : Bool := decide (-9223372036854775808 ≤ n) && decide (n < 9223372036854775808)

/-- `F64toI64(x)`: the integer that an integral value in range equals, the draw for anything else. -/
def f64ToI64 (x d : Slot) : BitVec 64 :=
  match unpack64 x with
  | .nan => d
  | .inf _ => d
  | .fin s m =>
    let q := m >>> 1074
    if q <<< 1074 = m ∧ fitsI64 (signedInt s q) = true then BitVec.ofInt 64 (signedInt s q) else d

/-! ## Rounding to an integral value (00_scope.md R17) -/

/-- The three directed roundings. -/
inductive Direction where
  /-- Toward negative infinity. -/
  | down
  /-- Toward positive infinity. -/
  | up
  /-- Toward zero. -/
  | chop
deriving DecidableEq, Repr

/-- The integral magnitude that a magnitude of `m` units rounds to: its whole part, plus one when a fraction is left and the
direction leads away from zero. -/
def integralMag (dir : Direction) (neg : Bool) (m : Nat) : Nat :=
  let q := m >>> 1074
  if q <<< 1074 = m then q
  else match dir with
    | .down => if neg then q + 1 else q
    | .up => if neg then q else q + 1
    | .chop => q

/-- `Floor`, `Ceil` and `Trunc`: infinities are returned as they are, a zero result keeps the sign of the argument. -/
def roundIntegral (dir : Direction) (x d : Slot) : Slot :=
  match unpack64 x with
  | .nan => nan64 d
  | .inf s => inf64 s
  | .fin s m => pack64 s 0 (integralMag dir s m <<< 1074)

/-- The greatest integer not above a finite value. -/
def floorInt (neg : Bool) (m : Nat) : Int := signedInt neg (integralMag .down neg m)

end Sys2Proof.Machine.Num
end

