-- ==== Sys2Proof/Config.lean ====
section
/-! DEFINITION. The parameters the spec leaves OPEN (00_scope.md R10) and the free values (R16), as constants without a body:
nothing can be proved of which value they have. The parameters whose values the spec fixes are where they are used: `NUM` in
Machine/Num.lean, `CONST` in Machine/Constants.lean. -/

namespace Sys2Proof.Config

/-- The three condition codes that FCOMPP writes for unordered operands (43_compare.md R198). -/
structure UnorderedCC where
  c3 : Bool
  c2 : Bool
  c0 : Bool
deriving DecidableEq, Repr, Inhabited

/-- Draw number `n`, a 64-bit value the source leaves unspecified; two numbers are two independent draws (00_scope.md R16). -/
opaque draw64 : Nat → Slot

/-- FCOMPP_UNORDERED_CC (00_scope.md R10; 43_compare.md R198). -/
opaque fcomppUnorderedCC : UnorderedCC

/-- Fn2xm1, meant as `2^x - 1`: total, a function of its argument alone (00_scope.md R10; 46_transcendental.md R255). -/
opaque fn2xm1 : Slot → Slot

/-- FnLog2, meant as `log2(x)`: total, a function of its argument alone (00_scope.md R10; 46_transcendental.md R255). -/
opaque fnLog2 : Slot → Slot

/-- CYCLES, the cycle count of a completed instruction `(esc, modrm)`; no rule reads it (70_reset_and_hazards.md R357). -/
opaque cycles : Byte → Byte → Nat

end Sys2Proof.Config
end

