-- ==== Sys2Proof/Machine/OpcodeMap.lean ====
section
/-! DEFINITION. The opcode map of 30_encoding.md R77 as rows of pattern and mask over `IW` = esc, modrm (R87). The decoder
does not read it: it says which pairs are defined (R78), for `WellFormed`, and lets the decoder be checked against it. -/

namespace Sys2Proof

/-- The three formats of a defined row (30_encoding.md R87). -/
inductive RowFormat where
  | mem
  | regIndexed
  | regFixed
deriving DecidableEq, Repr

/-- One row: `w` matches when `w &&& mask = pattern` and, in a memory row, `w[7:6]` is not 3 (30_encoding.md R87). -/
structure OpcodeRow where
  format : RowFormat
  pattern : Word16
  mask : Word16
deriving DecidableEq, Repr

/-- The match test of a row (30_encoding.md R87). -/
def rowMatches (r : OpcodeRow) (w : Word16) : Bool :=
  (w &&& r.mask == r.pattern) && (r.format != .mem || w.extractLsb' 6 2 != 3#2)

/-- The 16 rows of group D8 (30_encoding.md R77). -/
def opcodeRowsD8 : List OpcodeRow := [
  ⟨.mem, 0xD800#16, 0xFF38#16⟩,
  ⟨.mem, 0xD808#16, 0xFF38#16⟩,
  ⟨.mem, 0xD810#16, 0xFF38#16⟩,
  ⟨.mem, 0xD818#16, 0xFF38#16⟩,
  ⟨.mem, 0xD820#16, 0xFF38#16⟩,
  ⟨.mem, 0xD828#16, 0xFF38#16⟩,
  ⟨.mem, 0xD830#16, 0xFF38#16⟩,
  ⟨.mem, 0xD838#16, 0xFF38#16⟩,
  ⟨.regIndexed, 0xD8C0#16, 0xFFF8#16⟩,
  ⟨.regIndexed, 0xD8C8#16, 0xFFF8#16⟩,
  ⟨.regIndexed, 0xD8D0#16, 0xFFF8#16⟩,
  ⟨.regIndexed, 0xD8D8#16, 0xFFF8#16⟩,
  ⟨.regIndexed, 0xD8E0#16, 0xFFF8#16⟩,
  ⟨.regIndexed, 0xD8E8#16, 0xFFF8#16⟩,
  ⟨.regIndexed, 0xD8F0#16, 0xFFF8#16⟩,
  ⟨.regIndexed, 0xD8F8#16, 0xFFF8#16⟩]

/-- The 18 rows of group D9 (30_encoding.md R77). -/
def opcodeRowsD9 : List OpcodeRow := [
  ⟨.mem, 0xD900#16, 0xFF38#16⟩,
  ⟨.mem, 0xD910#16, 0xFF38#16⟩,
  ⟨.mem, 0xD918#16, 0xFF38#16⟩,
  ⟨.mem, 0xD928#16, 0xFF38#16⟩,
  ⟨.mem, 0xD930#16, 0xFF38#16⟩,
  ⟨.mem, 0xD938#16, 0xFF38#16⟩,
  ⟨.regIndexed, 0xD9C0#16, 0xFFF8#16⟩,
  ⟨.regIndexed, 0xD9C8#16, 0xFFF8#16⟩,
  ⟨.regFixed, 0xD9E8#16, 0xFFFF#16⟩,
  ⟨.regFixed, 0xD9E9#16, 0xFFFF#16⟩,
  ⟨.regFixed, 0xD9EA#16, 0xFFFF#16⟩,
  ⟨.regFixed, 0xD9EB#16, 0xFFFF#16⟩,
  ⟨.regFixed, 0xD9EC#16, 0xFFFF#16⟩,
  ⟨.regFixed, 0xD9ED#16, 0xFFFF#16⟩,
  ⟨.regFixed, 0xD9EE#16, 0xFFFF#16⟩,
  ⟨.regFixed, 0xD9F0#16, 0xFFFF#16⟩,
  ⟨.regFixed, 0xD9F1#16, 0xFFFF#16⟩,
  ⟨.regFixed, 0xD9FC#16, 0xFFFF#16⟩]

/-- The 3 rows of group DB (30_encoding.md R77). -/
def opcodeRowsDB : List OpcodeRow := [
  ⟨.regFixed, 0xDBE2#16, 0xFFFF#16⟩,
  ⟨.regFixed, 0xDBE3#16, 0xFFFF#16⟩,
  ⟨.regFixed, 0xDBE4#16, 0xFFFF#16⟩]

/-- The 14 rows of group DC (30_encoding.md R77). -/
def opcodeRowsDC : List OpcodeRow := [
  ⟨.mem, 0xDC00#16, 0xFF38#16⟩,
  ⟨.mem, 0xDC08#16, 0xFF38#16⟩,
  ⟨.mem, 0xDC10#16, 0xFF38#16⟩,
  ⟨.mem, 0xDC18#16, 0xFF38#16⟩,
  ⟨.mem, 0xDC20#16, 0xFF38#16⟩,
  ⟨.mem, 0xDC28#16, 0xFF38#16⟩,
  ⟨.mem, 0xDC30#16, 0xFF38#16⟩,
  ⟨.mem, 0xDC38#16, 0xFF38#16⟩,
  ⟨.regIndexed, 0xDCC0#16, 0xFFF8#16⟩,
  ⟨.regIndexed, 0xDCC8#16, 0xFFF8#16⟩,
  ⟨.regIndexed, 0xDCE0#16, 0xFFF8#16⟩,
  ⟨.regIndexed, 0xDCE8#16, 0xFFF8#16⟩,
  ⟨.regIndexed, 0xDCF0#16, 0xFFF8#16⟩,
  ⟨.regIndexed, 0xDCF8#16, 0xFFF8#16⟩]

/-- The 4 rows of group DD (30_encoding.md R77). -/
def opcodeRowsDD : List OpcodeRow := [
  ⟨.mem, 0xDD00#16, 0xFF38#16⟩,
  ⟨.mem, 0xDD10#16, 0xFF38#16⟩,
  ⟨.mem, 0xDD18#16, 0xFF38#16⟩,
  ⟨.mem, 0xDD38#16, 0xFF38#16⟩]

/-- The 7 rows of group DE (30_encoding.md R77). -/
def opcodeRowsDE : List OpcodeRow := [
  ⟨.regIndexed, 0xDEC0#16, 0xFFF8#16⟩,
  ⟨.regIndexed, 0xDEC8#16, 0xFFF8#16⟩,
  ⟨.regFixed, 0xDED9#16, 0xFFFF#16⟩,
  ⟨.regIndexed, 0xDEE0#16, 0xFFF8#16⟩,
  ⟨.regIndexed, 0xDEE8#16, 0xFFF8#16⟩,
  ⟨.regIndexed, 0xDEF0#16, 0xFFF8#16⟩,
  ⟨.regIndexed, 0xDEF8#16, 0xFFF8#16⟩]

/-- The 3 rows of group DF (30_encoding.md R77). -/
def opcodeRowsDF : List OpcodeRow := [
  ⟨.mem, 0xDF28#16, 0xFF38#16⟩,
  ⟨.mem, 0xDF38#16, 0xFF38#16⟩,
  ⟨.regFixed, 0xDFE0#16, 0xFFFF#16⟩]

/-- The 65 defined rows; group DA has none (30_encoding.md R77, R84). -/
def opcodeRows : List OpcodeRow :=
  opcodeRowsD8 ++ opcodeRowsD9 ++ opcodeRowsDB ++ opcodeRowsDC ++ opcodeRowsDD ++ opcodeRowsDE ++ opcodeRowsDF

/-- Whether some row of the map takes the word (30_encoding.md R78). -/
def isDefinedWord (w : Word16) : Bool :=
  opcodeRows.any fun r => rowMatches r w

end Sys2Proof
end

