-- ==== Sys2Proof/Syntax.lean ====
section
/-! DEFINITION. The instructions of FPU-RSC as syntax: one constructor for each row of spec/opcode_table.json, in the
table's order (30_encoding.md R77, R78). -/

namespace Sys2Proof

/-- The two `modrm` fields of a memory form that belong to the external decoder (30_encoding.md R72, R74): the block reads
neither beyond the form test, and keeps them so that an encoding loses no bit. -/
structure AddrMode where
  /-- `modrm[7:6]`, not 3 in a memory form (R73). -/
  mod : BitVec 2
  /-- `modrm[2:0]`. -/
  rm : BitVec 3
deriving DecidableEq, Repr

/-- An instruction. `m` stands for the addressing fields of a memory form, `i` for the stack index of an indexed register
form (30_encoding.md R75, R76). The effective address is no operand of the encoding: it arrives at the port (00_scope.md R7). -/
inductive Instr where
  /-- FADD m32: `D8 /0` (R150). -/
  | faddM32 (m : AddrMode)
  /-- FMUL m32: `D8 /1` (R151). -/
  | fmulM32 (m : AddrMode)
  /-- FCOM m32: `D8 /2` (R192). -/
  | fcomM32 (m : AddrMode)
  /-- FCOMP m32: `D8 /3` (R193). -/
  | fcompM32 (m : AddrMode)
  /-- FSUB m32: `D8 /4` (R152). -/
  | fsubM32 (m : AddrMode)
  /-- FSUBR m32: `D8 /5` (R153). -/
  | fsubrM32 (m : AddrMode)
  /-- FDIV m32: `D8 /6` (R154). -/
  | fdivM32 (m : AddrMode)
  /-- FDIVR m32: `D8 /7` (R155). -/
  | fdivrM32 (m : AddrMode)
  /-- FADD ST, ST(i): `D8 C0+i` (R162). -/
  | faddStSti (i : StackIndex)
  /-- FMUL ST, ST(i): `D8 C8+i` (R163). -/
  | fmulStSti (i : StackIndex)
  /-- FCOM ST(i): `D8 D0+i` (R196). -/
  | fcomSti (i : StackIndex)
  /-- FCOMP ST(i): `D8 D8+i` (R197). -/
  | fcompSti (i : StackIndex)
  /-- FSUB ST, ST(i): `D8 E0+i` (R164). -/
  | fsubStSti (i : StackIndex)
  /-- FSUBR ST, ST(i): `D8 E8+i` (R165). -/
  | fsubrStSti (i : StackIndex)
  /-- FDIV ST, ST(i): `D8 F0+i` (R166). -/
  | fdivStSti (i : StackIndex)
  /-- FDIVR ST, ST(i): `D8 F8+i` (R167). -/
  | fdivrStSti (i : StackIndex)
  /-- FLD m32: `D9 /0` (R212). -/
  | fldM32 (m : AddrMode)
  /-- FST m32: `D9 /2` (R216). -/
  | fstM32 (m : AddrMode)
  /-- FSTP m32: `D9 /3` (R218). -/
  | fstpM32 (m : AddrMode)
  /-- FLDCW m16: `D9 /5` (R266). -/
  | fldcwM16 (m : AddrMode)
  /-- FNSTENV m14: `D9 /6` (R268). -/
  | fnstenvM14 (m : AddrMode)
  /-- FNSTCW m16: `D9 /7` (R267). -/
  | fnstcwM16 (m : AddrMode)
  /-- FLD ST(i): `D9 C0+i` (R215). -/
  | fldSti (i : StackIndex)
  /-- FXCH ST(i): `D9 C8+i` (R290). -/
  | fxchSti (i : StackIndex)
  /-- FLD1: `D9 E8` (R241). -/
  | fld1
  /-- FLDL2T: `D9 E9` (R242). -/
  | fldl2t
  /-- FLDL2E: `D9 EA` (R243). -/
  | fldl2e
  /-- FLDPI: `D9 EB` (R244). -/
  | fldpi
  /-- FLDLG2: `D9 EC` (R245). -/
  | fldlg2
  /-- FLDLN2: `D9 ED` (R246). -/
  | fldln2
  /-- FLDZ: `D9 EE` (R247). -/
  | fldz
  /-- F2XM1: `D9 F0` (R256). -/
  | f2xm1
  /-- FYL2X: `D9 F1` (R257). -/
  | fyl2x
  /-- FRNDINT: `D9 FC` (R301). -/
  | frndint
  /-- FNCLEX: `DB E2` (R272). -/
  | fnclex
  /-- FNINIT: `DB E3` (R271). -/
  | fninit
  /-- FSETPM: `DB E4` (R273). -/
  | fsetpm
  /-- FADD m64: `DC /0` (R156). -/
  | faddM64 (m : AddrMode)
  /-- FMUL m64: `DC /1` (R157). -/
  | fmulM64 (m : AddrMode)
  /-- FCOM m64: `DC /2` (R194). -/
  | fcomM64 (m : AddrMode)
  /-- FCOMP m64: `DC /3` (R195). -/
  | fcompM64 (m : AddrMode)
  /-- FSUB m64: `DC /4` (R158). -/
  | fsubM64 (m : AddrMode)
  /-- FSUBR m64: `DC /5` (R159). -/
  | fsubrM64 (m : AddrMode)
  /-- FDIV m64: `DC /6` (R160). -/
  | fdivM64 (m : AddrMode)
  /-- FDIVR m64: `DC /7` (R161). -/
  | fdivrM64 (m : AddrMode)
  /-- FADD ST(i), ST: `DC C0+i` (R168). -/
  | faddStiSt (i : StackIndex)
  /-- FMUL ST(i), ST: `DC C8+i` (R169). -/
  | fmulStiSt (i : StackIndex)
  /-- FSUBR ST(i), ST: `DC E0+i` (R171). -/
  | fsubrStiSt (i : StackIndex)
  /-- FSUB ST(i), ST: `DC E8+i` (R170). -/
  | fsubStiSt (i : StackIndex)
  /-- FDIVR ST(i), ST: `DC F0+i` (R173). -/
  | fdivrStiSt (i : StackIndex)
  /-- FDIV ST(i), ST: `DC F8+i` (R172). -/
  | fdivStiSt (i : StackIndex)
  /-- FLD m64: `DD /0` (R213). -/
  | fldM64 (m : AddrMode)
  /-- FST m64: `DD /2` (R217). -/
  | fstM64 (m : AddrMode)
  /-- FSTP m64: `DD /3` (R219). -/
  | fstpM64 (m : AddrMode)
  /-- FNSTSW m16: `DD /7` (R269). -/
  | fnstswM16 (m : AddrMode)
  /-- FADDP ST(i), ST: `DE C0+i` (R174). -/
  | faddpStiSt (i : StackIndex)
  /-- FMULP ST(i), ST: `DE C8+i` (R175). -/
  | fmulpStiSt (i : StackIndex)
  /-- FCOMPP: `DE D9` (R198). -/
  | fcompp
  /-- FSUBRP ST(i), ST: `DE E0+i` (R177). -/
  | fsubrpStiSt (i : StackIndex)
  /-- FSUBP ST(i), ST: `DE E8+i` (R176). -/
  | fsubpStiSt (i : StackIndex)
  /-- FDIVRP ST(i), ST: `DE F0+i` (R179). -/
  | fdivrpStiSt (i : StackIndex)
  /-- FDIVP ST(i), ST: `DE F8+i` (R178). -/
  | fdivpStiSt (i : StackIndex)
  /-- FILD m64: `DF /5` (R214). -/
  | fildM64 (m : AddrMode)
  /-- FISTP m64: `DF /7` (R220). -/
  | fistpM64 (m : AddrMode)
  /-- FNSTSW AX: `DF E0` (R270). -/
  | fnstswAx
  /-- Every pair of group `g` and `modrm` that no other row takes: class 1 fatal (R78, R84; 60_exceptions.md R321). -/
  | undefined (g : BitVec 3) (modrm : Byte)
deriving DecidableEq, Repr

end Sys2Proof
end

