-- ==== Sys2Proof/WellFormed.lean ====
section
/-! DEFINITION. Which instruction terms an encoding can give (30_encoding.md R73, R78). -/

namespace Sys2Proof

/-- `mod` is not 3 in a memory form (30_encoding.md R72, R73). -/
def AddrMode.wf (m : AddrMode) : Bool := m.mod != 3#2

/-- The word of the pair `(esc, modrm)` with `esc = 0b11011 g` (30_encoding.md R70, R71). -/
def pairWord (g : BitVec 3) (modrm : Byte) : Word16 := 0b11011#5 ++ g ++ modrm

/-- Well-formedness: the addressing fields of a memory form say memory form, and an undefined pair is outside the opcode
map. An indexed form admits all eight indices (30_encoding.md R76). -/
def Instr.wf : Instr → Bool
  | .faddM32 m => m.wf
  | .fmulM32 m => m.wf
  | .fcomM32 m => m.wf
  | .fcompM32 m => m.wf
  | .fsubM32 m => m.wf
  | .fsubrM32 m => m.wf
  | .fdivM32 m => m.wf
  | .fdivrM32 m => m.wf
  | .faddStSti _ => true
  | .fmulStSti _ => true
  | .fcomSti _ => true
  | .fcompSti _ => true
  | .fsubStSti _ => true
  | .fsubrStSti _ => true
  | .fdivStSti _ => true
  | .fdivrStSti _ => true
  | .fldM32 m => m.wf
  | .fstM32 m => m.wf
  | .fstpM32 m => m.wf
  | .fldcwM16 m => m.wf
  | .fnstenvM14 m => m.wf
  | .fnstcwM16 m => m.wf
  | .fldSti _ => true
  | .fxchSti _ => true
  | .fld1 => true
  | .fldl2t => true
  | .fldl2e => true
  | .fldpi => true
  | .fldlg2 => true
  | .fldln2 => true
  | .fldz => true
  | .f2xm1 => true
  | .fyl2x => true
  | .frndint => true
  | .fnclex => true
  | .fninit => true
  | .fsetpm => true
  | .faddM64 m => m.wf
  | .fmulM64 m => m.wf
  | .fcomM64 m => m.wf
  | .fcompM64 m => m.wf
  | .fsubM64 m => m.wf
  | .fsubrM64 m => m.wf
  | .fdivM64 m => m.wf
  | .fdivrM64 m => m.wf
  | .faddStiSt _ => true
  | .fmulStiSt _ => true
  | .fsubrStiSt _ => true
  | .fsubStiSt _ => true
  | .fdivrStiSt _ => true
  | .fdivStiSt _ => true
  | .fldM64 m => m.wf
  | .fstM64 m => m.wf
  | .fstpM64 m => m.wf
  | .fnstswM16 m => m.wf
  | .faddpStiSt _ => true
  | .fmulpStiSt _ => true
  | .fcompp => true
  | .fsubrpStiSt _ => true
  | .fsubpStiSt _ => true
  | .fdivrpStiSt _ => true
  | .fdivpStiSt _ => true
  | .fildM64 m => m.wf
  | .fistpM64 m => m.wf
  | .fnstswAx => true
  | .undefined g modrm => !isDefinedWord (pairWord g modrm)

/-- Well-formedness as a proposition. -/
abbrev Instr.WellFormed (i : Instr) : Prop := i.wf = true

end Sys2Proof
end

