-- ==== Sys2Proof/Decode.lean ====
section
/-! DEFINITION. The decoder of 30_encoding.md R70 to R79 (form test, then one dispatcher per group) and, after it, the encoder
written from the same map. -/

namespace Sys2Proof

/-! ## The fields of `modrm` (30_encoding.md R72) -/

/-- `mod = modrm[7:6]`. -/
def modField (modrm : Byte) : BitVec 2 := modrm.extractLsb' 6 2

/-- `sub3 = modrm[5:3]`. -/
def sub3Field (modrm : Byte) : BitVec 3 := modrm.extractLsb' 3 3

/-- `rm = modrm[2:0]`, in register form the stack index `i` (R75, R76). -/
def rmField (modrm : Byte) : BitVec 3 := modrm.extractLsb' 0 3

/-- `sub6 = modrm[5:0]`. -/
def sub6Field (modrm : Byte) : BitVec 6 := modrm.extractLsb' 0 6

/-- The threshold test, the same in every group (30_encoding.md R73; 41_operand_resolver.md R120). -/
def isReg (modrm : Byte) : Bool := 0xC0#8 ≤ modrm

/-- The sub-opcode a class 1 fatal reports (30_encoding.md R86; 60_exceptions.md R321). -/
inductive SubOpcode where
  /-- Memory form: `sub3`. -/
  | mem (sub3 : BitVec 3)
  /-- Register form: `sub6`. -/
  | reg (sub6 : BitVec 6)
deriving DecidableEq, Repr

/-- The sub-opcode of `modrm`: `sub3` in memory form, `sub6` in register form (30_encoding.md R86). -/
def subOpcode (modrm : Byte) : SubOpcode :=
  if isReg modrm then .reg (sub6Field modrm) else .mem (sub3Field modrm)

/-! ## The group dispatchers (30_encoding.md R71, R74, R75, R77)

A memory dispatcher is given `sub3`; a register dispatcher is given `sub6` as its high three bits, which select an indexed
family, and its low three, which are the index or the rest of a fixed encoding. -/

/-- Group D8: short memory and `ST, ST(i)` arithmetic and compare. Memory form. -/
def decodeD8Mem (sub3 : BitVec 3) (m : AddrMode) : Option Instr :=
  match sub3.toNat with
  | 0 => some (.faddM32 m)
  | 1 => some (.fmulM32 m)
  | 2 => some (.fcomM32 m)
  | 3 => some (.fcompM32 m)
  | 4 => some (.fsubM32 m)
  | 5 => some (.fsubrM32 m)
  | 6 => some (.fdivM32 m)
  | 7 => some (.fdivrM32 m)
  | _ => none

/-- Group D8: short memory and `ST, ST(i)` arithmetic and compare. Register form. -/
def decodeD8Reg (hi lo : BitVec 3) : Option Instr :=
  match hi.toNat, lo.toNat with
  | 0, _ => some (.faddStSti lo)
  | 1, _ => some (.fmulStSti lo)
  | 2, _ => some (.fcomSti lo)
  | 3, _ => some (.fcompSti lo)
  | 4, _ => some (.fsubStSti lo)
  | 5, _ => some (.fsubrStSti lo)
  | 6, _ => some (.fdivStSti lo)
  | 7, _ => some (.fdivrStSti lo)
  | _, _ => none

/-- Group D9: single load and store, control word, environment store; FLD ST(i), FXCH, constants, transcendentals, FRNDINT. Memory form. -/
def decodeD9Mem (sub3 : BitVec 3) (m : AddrMode) : Option Instr :=
  match sub3.toNat with
  | 0 => some (.fldM32 m)
  | 2 => some (.fstM32 m)
  | 3 => some (.fstpM32 m)
  | 5 => some (.fldcwM16 m)
  | 6 => some (.fnstenvM14 m)
  | 7 => some (.fnstcwM16 m)
  | _ => none

/-- Group D9: single load and store, control word, environment store; FLD ST(i), FXCH, constants, transcendentals, FRNDINT. Register form. -/
def decodeD9Reg (hi lo : BitVec 3) : Option Instr :=
  match hi.toNat, lo.toNat with
  | 0, _ => some (.fldSti lo)
  | 1, _ => some (.fxchSti lo)
  | 5, 0 => some .fld1
  | 5, 1 => some .fldl2t
  | 5, 2 => some .fldl2e
  | 5, 3 => some .fldpi
  | 5, 4 => some .fldlg2
  | 5, 5 => some .fldln2
  | 5, 6 => some .fldz
  | 6, 0 => some .f2xm1
  | 6, 1 => some .fyl2x
  | 7, 4 => some .frndint
  | _, _ => none

/-- Group DB: FNCLEX, FNINIT, FSETPM. Register form. -/
def decodeDBReg (hi lo : BitVec 3) : Option Instr :=
  match hi.toNat, lo.toNat with
  | 4, 2 => some .fnclex
  | 4, 3 => some .fninit
  | 4, 4 => some .fsetpm
  | _, _ => none

/-- Group DC: long memory arithmetic and compare; `ST(i), ST` arithmetic, with the plain and reversed rows exchanged (R77, note). Memory form. -/
def decodeDCMem (sub3 : BitVec 3) (m : AddrMode) : Option Instr :=
  match sub3.toNat with
  | 0 => some (.faddM64 m)
  | 1 => some (.fmulM64 m)
  | 2 => some (.fcomM64 m)
  | 3 => some (.fcompM64 m)
  | 4 => some (.fsubM64 m)
  | 5 => some (.fsubrM64 m)
  | 6 => some (.fdivM64 m)
  | 7 => some (.fdivrM64 m)
  | _ => none

/-- Group DC: long memory arithmetic and compare; `ST(i), ST` arithmetic, with the plain and reversed rows exchanged (R77, note). Register form. -/
def decodeDCReg (hi lo : BitVec 3) : Option Instr :=
  match hi.toNat, lo.toNat with
  | 0, _ => some (.faddStiSt lo)
  | 1, _ => some (.fmulStiSt lo)
  | 4, _ => some (.fsubrStiSt lo)
  | 5, _ => some (.fsubStiSt lo)
  | 6, _ => some (.fdivrStiSt lo)
  | 7, _ => some (.fdivStiSt lo)
  | _, _ => none

/-- Group DD: double load and store, status word store. Memory form. -/
def decodeDDMem (sub3 : BitVec 3) (m : AddrMode) : Option Instr :=
  match sub3.toNat with
  | 0 => some (.fldM64 m)
  | 2 => some (.fstM64 m)
  | 3 => some (.fstpM64 m)
  | 7 => some (.fnstswM16 m)
  | _ => none

/-- Group DE: pop arithmetic, FCOMPP. Register form. -/
def decodeDEReg (hi lo : BitVec 3) : Option Instr :=
  match hi.toNat, lo.toNat with
  | 0, _ => some (.faddpStiSt lo)
  | 1, _ => some (.fmulpStiSt lo)
  | 3, 1 => some .fcompp
  | 4, _ => some (.fsubrpStiSt lo)
  | 5, _ => some (.fsubpStiSt lo)
  | 6, _ => some (.fdivrpStiSt lo)
  | 7, _ => some (.fdivpStiSt lo)
  | _, _ => none

/-- Group DF: 64-bit integer load and store, FNSTSW AX. Memory form. -/
def decodeDFMem (sub3 : BitVec 3) (m : AddrMode) : Option Instr :=
  match sub3.toNat with
  | 5 => some (.fildM64 m)
  | 7 => some (.fistpM64 m)
  | _ => none

/-- Group DF: 64-bit integer load and store, FNSTSW AX. Register form. -/
def decodeDFReg (hi lo : BitVec 3) : Option Instr :=
  match hi.toNat, lo.toNat with
  | 4, 0 => some .fnstswAx
  | _, _ => none

/-- The memory dispatchers by group; group DA and group DB have no memory row (30_encoding.md R84). -/
def decodeMem (g sub3 : BitVec 3) (m : AddrMode) : Option Instr :=
  match g.toNat with
  | 0 => decodeD8Mem sub3 m
  | 1 => decodeD9Mem sub3 m
  | 4 => decodeDCMem sub3 m
  | 5 => decodeDDMem sub3 m
  | 7 => decodeDFMem sub3 m
  | _ => none

/-- The register dispatchers by group; group DA and group DD have no register row. -/
def decodeReg (g hi lo : BitVec 3) : Option Instr :=
  match g.toNat with
  | 0 => decodeD8Reg hi lo
  | 1 => decodeD9Reg hi lo
  | 3 => decodeDBReg hi lo
  | 4 => decodeDCReg hi lo
  | 6 => decodeDEReg hi lo
  | 7 => decodeDFReg hi lo
  | _ => none

/-- Decoding inside a group: the form test first, then the sub-opcode; what no row takes is `undefined`
(30_encoding.md R73, R78, R80). -/
def decodeGroup (g : BitVec 3) (modrm : Byte) : Instr :=
  (if isReg modrm then decodeReg g (sub3Field modrm) (rmField modrm)
   else decodeMem g (sub3Field modrm) ⟨modField modrm, rmField modrm⟩).getD (.undefined g modrm)

/-- Why a pair of bytes is not an instruction of this block. -/
inductive DecodeError where
  /-- `esc` is not one of the eight escape bytes: such a byte never reaches the block (30_encoding.md R71). -/
  | notEscape (esc : Byte)
deriving DecidableEq, Repr

/-- The decoder, total on any two bytes: `esc[7:3]` must be 0b11011 and `g = esc[2:0]` (30_encoding.md R71, R79). -/
def decode (esc modrm : Byte) : Except DecodeError Instr :=
  if esc.extractLsb' 3 5 = 0b11011#5 then .ok (decodeGroup (esc.extractLsb' 0 3) modrm) else .error (.notEscape esc)

/-- Decoding the instruction word `IW`, `esc` in bits 15:8 (30_encoding.md R70). -/
def decodeWord (iw : Word16) : Except DecodeError Instr := decode (iw.extractLsb' 8 8) (iw.extractLsb' 0 8)

/-- The 16-bit word that the low `nbits` bits of `w` make, the bits above them zero. -/
def tableWord (nbits w : Nat) : Word16 := BitVec.ofNat 16 (w % 2 ^ nbits)

/-- The decoder on a word numbered as spec/opcode_table.json numbers it: one 16-bit word with `esc` in bits 15:8 (R87). -/
def decodeTableWord (nbits w : Nat) : Option Instr :=
  match decodeWord (tableWord nbits w) with
  | .ok i => some i
  | .error _ => none

/-! ## The encoder (30_encoding.md R70 to R77) -/

/-- `modrm` of a memory form: `mod`, `sub3`, `rm` (30_encoding.md R72, R74). -/
def memWord (g sub3 : BitVec 3) (m : AddrMode) : Word16 := pairWord g (m.mod ++ sub3 ++ m.rm)

/-- `modrm` of a register form: 0b11, the family, the index or the rest of the sub-opcode (30_encoding.md R72, R75). -/
def regWord (g hi lo : BitVec 3) : Word16 := pairWord g (0b11#2 ++ hi ++ lo)

/-- The instruction word of an instruction (30_encoding.md R77). -/
def encode : Instr → Word16
  | .faddM32 m => memWord 0 0 m
  | .fmulM32 m => memWord 0 1 m
  | .fcomM32 m => memWord 0 2 m
  | .fcompM32 m => memWord 0 3 m
  | .fsubM32 m => memWord 0 4 m
  | .fsubrM32 m => memWord 0 5 m
  | .fdivM32 m => memWord 0 6 m
  | .fdivrM32 m => memWord 0 7 m
  | .faddStSti i => regWord 0 0 i
  | .fmulStSti i => regWord 0 1 i
  | .fcomSti i => regWord 0 2 i
  | .fcompSti i => regWord 0 3 i
  | .fsubStSti i => regWord 0 4 i
  | .fsubrStSti i => regWord 0 5 i
  | .fdivStSti i => regWord 0 6 i
  | .fdivrStSti i => regWord 0 7 i
  | .fldM32 m => memWord 1 0 m
  | .fstM32 m => memWord 1 2 m
  | .fstpM32 m => memWord 1 3 m
  | .fldcwM16 m => memWord 1 5 m
  | .fnstenvM14 m => memWord 1 6 m
  | .fnstcwM16 m => memWord 1 7 m
  | .fldSti i => regWord 1 0 i
  | .fxchSti i => regWord 1 1 i
  | .fld1 => regWord 1 5 0
  | .fldl2t => regWord 1 5 1
  | .fldl2e => regWord 1 5 2
  | .fldpi => regWord 1 5 3
  | .fldlg2 => regWord 1 5 4
  | .fldln2 => regWord 1 5 5
  | .fldz => regWord 1 5 6
  | .f2xm1 => regWord 1 6 0
  | .fyl2x => regWord 1 6 1
  | .frndint => regWord 1 7 4
  | .fnclex => regWord 3 4 2
  | .fninit => regWord 3 4 3
  | .fsetpm => regWord 3 4 4
  | .faddM64 m => memWord 4 0 m
  | .fmulM64 m => memWord 4 1 m
  | .fcomM64 m => memWord 4 2 m
  | .fcompM64 m => memWord 4 3 m
  | .fsubM64 m => memWord 4 4 m
  | .fsubrM64 m => memWord 4 5 m
  | .fdivM64 m => memWord 4 6 m
  | .fdivrM64 m => memWord 4 7 m
  | .faddStiSt i => regWord 4 0 i
  | .fmulStiSt i => regWord 4 1 i
  | .fsubrStiSt i => regWord 4 4 i
  | .fsubStiSt i => regWord 4 5 i
  | .fdivrStiSt i => regWord 4 6 i
  | .fdivStiSt i => regWord 4 7 i
  | .fldM64 m => memWord 5 0 m
  | .fstM64 m => memWord 5 2 m
  | .fstpM64 m => memWord 5 3 m
  | .fnstswM16 m => memWord 5 7 m
  | .faddpStiSt i => regWord 6 0 i
  | .fmulpStiSt i => regWord 6 1 i
  | .fcompp => regWord 6 3 1
  | .fsubrpStiSt i => regWord 6 4 i
  | .fsubpStiSt i => regWord 6 5 i
  | .fdivrpStiSt i => regWord 6 6 i
  | .fdivpStiSt i => regWord 6 7 i
  | .fildM64 m => memWord 7 5 m
  | .fistpM64 m => memWord 7 7 m
  | .fnstswAx => regWord 7 4 0
  | .undefined g modrm => pairWord g modrm

end Sys2Proof
end

