-- ==== Sys2Proof/Machine/State.lean ====
section
/-! DEFINITION. The state of FPU-RSC (10_state.md R20), of the collaborators its ports reach, and of the ports themselves, as
plain data; the outcomes a step can stop with; the state after reset. -/

namespace Sys2Proof.Machine

/-- The outcome `fault`: nothing raises one. The two fatal classes of 60_exceptions.md R320 are next states with the halted
latch set (R321, R322, R327), and every bus access completes (20_memory.md R57). -/
inductive Fault
deriving DecidableEq, Repr

/-- The outcome `refused`. -/
inductive Refusal where
  /-- An instruction without a meaning in this model: raised by an arm of `exec`, none at present. Safe. -/
  | notModelled (mnemonic : String)
  /-- The byte presented as `esc` is not one of 0xD8 to 0xDF: raised by `step`. Such a byte never reaches the block
  (30_encoding.md R71; 93_implementation_defined.md U22). Safe. -/
  | notEscape (esc : Byte)
deriving DecidableEq, Repr

/-- The kinds of class 2 fatal: one (60_exceptions.md R322). -/
inductive ExceptionKind where
  | zeroDivide
deriving DecidableEq, Repr

/-- What a fatal records (60_exceptions.md R321, R322, R324). -/
inductive Report where
  /-- Class 1: group, sub-opcode and pc. -/
  | unimplementedInstruction (g : BitVec 3) (sub : SubOpcode) (pc : Addr)
  /-- Class 2: kind and pc. -/
  | unimplementedException (kind : ExceptionKind) (pc : Addr)
deriving DecidableEq, Repr

/-- The instruction tuple of the input port (00_scope.md R7). -/
structure Presented where
  esc : Byte
  modrm : Byte
  /-- The effective address, meaningful in memory form only. -/
  ea : Addr
  /-- Used in a fatal report only (10_state.md R36). -/
  pc : Addr
deriving DecidableEq, Repr

/-- What the host does at the block's inputs (00_scope.md R7, R8 (e)). -/
inductive HostInput where
  /-- It presents one instruction. -/
  | instr (p : Presented)
  /-- It asserts `RESET`, between two instructions (70_reset_and_hazards.md R350, R359). -/
  | reset
deriving DecidableEq, Repr

/-- The widths of a bus access (20_memory.md R50). -/
inductive AccessWidth where
  | w16
  | w32
  | w64
deriving DecidableEq, Repr

/-- What leaves the block at its outward ports (00_scope.md R8). -/
inductive PortEvent where
  /-- The bus access `MemRead(addr, n)`. -/
  | memRead (addr : Addr) (width : AccessWidth)
  /-- The bus access `MemWrite(addr, n, v)`. -/
  | memWrite (addr : Addr) (width : AccessWidth) (v : BitVec 64)
  /-- `AX <- v`. -/
  | accumulator (v : Word16)
  /-- The cycle count of a completed instruction. -/
  | cycles (n : Nat)
  /-- A fatal condition and its report. -/
  | fatal (r : Report)
deriving DecidableEq, Repr

/-- The bytes behind the bus port as (address, byte) pairs in the canonical form of `Memory.wf`. -/
abbrev Memory := List Host.Cell

/-- What an address that the memory does not list reads as (log entry 1: DESIGN CHOICE). -/
def unlistedByte : Byte := 0x00#8

/-- The state. -/
structure State where
  /-- `R[0]` to `R[7]` (10_state.md R22). -/
  slots : Vector Slot 8
  /-- `top` (10_state.md R25). -/
  top : StackIndex
  /-- `TW` (10_state.md R26). -/
  tw : Word16
  /-- `CW` (10_state.md R30). -/
  cw : Word16
  /-- The stored `SW` (10_state.md R32, R33). -/
  sw : Word16
  /-- `LIP` (10_state.md R34). -/
  lip : BitVec 32
  /-- `LOP` (10_state.md R34). -/
  lop : Word16
  /-- `LDP` (10_state.md R34). -/
  ldp : BitVec 32
  /-- `HALTED` (60_exceptions.md R327). -/
  halted : Bool
  /-- `REPORT` (60_exceptions.md R321, R322). -/
  report : Option Report
  /-- The bus collaborator's memory (20_memory.md R50). -/
  mem : Memory
  /-- The last value driven on the accumulator port (10_state.md R37). -/
  ax : Word16
  /-- Model's own: the tuple sampled for the instruction being executed (00_scope.md R7). -/
  port : Presented
  /-- Model's own: what the host will do, in order (00_scope.md R7, R8). -/
  inputs : List HostInput
  /-- Model's own: what has left the block, oldest first (00_scope.md R8). -/
  outputs : List PortEvent
  /-- Model's own: how many draws have been taken (00_scope.md R16). -/
  draws : Nat
deriving DecidableEq, Repr

/-- The state right after `RESET` (10_state.md R41; 70_reset_and_hazards.md R350). `RESET` writes neither `top` nor the slots:
their values here, and those of the ports, are named in log entries 2, 11 and 15. -/
def State.reset : State where
  slots := Vector.replicate 8 0#64
  top := 0#3
  tw := 0xFFFF#16
  cw := 0x037F#16
  sw := 0x0000#16
  lip := 0#32
  lop := 0#16
  ldp := 0#32
  halted := false
  report := none
  mem := []
  ax := 0#16
  port := ⟨0#8, 0#8, 0#32, 0#32⟩
  inputs := []
  outputs := []
  draws := 0

/-- What executing an instruction answers. -/
abbrev Result := Host.Outcome State Fault Refusal

end Sys2Proof.Machine
end

