-- ==== Sys2Proof/Machine/Ops.lean ====
section
/-! DEFINITION. The named operations over memory, the bus port, the register stack, the draws and the fatal port, which every
meaning is written with. -/

namespace Sys2Proof.Machine

/-! ## Memory: bytes by address, in one canonical form -/

/-- The byte at an address. -/
def Memory.readByte : Memory → Nat → Byte
  | [], _ => unlistedByte
  | (k, b) :: rest, a => if k = a then b else Memory.readByte rest a

/-- Put a byte in front of a memory whose addresses are all higher, unless it is what an unlisted address reads as. -/
def Memory.consByte (a : Nat) (b : Byte) (rest : Memory) : Memory :=
  if b = unlistedByte then rest else (a, b) :: rest

/-- Write one byte, keeping the canonical form. -/
def Memory.writeByte : Memory → Nat → Byte → Memory
  | [], a, b => Memory.consByte a b []
  | (k, c) :: rest, a, b =>
    if a < k then Memory.consByte a b ((k, c) :: rest)
    else if a = k then Memory.consByte a b rest
    else (k, c) :: Memory.writeByte rest a b

/-- Whether the addresses of a memory rise strictly from `lo` on, lie in the address space, and no entry holds what an
unlisted address reads as. -/
def Memory.wfFrom : Nat → Memory → Bool
  | _, [] => true
  | lo, (k, b) :: rest => decide (lo ≤ k) && decide (k < 4294967296) && (b != unlistedByte) && Memory.wfFrom (k + 1) rest

/-- The canonical form: equal memories are equal lists. -/
def Memory.wf (m : Memory) : Bool := Memory.wfFrom 0 m

/-- The `n` bytes at `a`, `a + 1`, … (addresses modulo 2^32) as a little-endian number (00_scope.md R13; 20_memory.md R51). -/
def Memory.readBytes (m : Memory) (a : Addr) : Nat → Nat
  | 0 => 0
  | n + 1 => (m.readByte a.toNat).toNat + 256 * Memory.readBytes m (a + 1#32) n

/-- Store the low `8n` bits of `v` at `a`, `a + 1`, …, little-endian (00_scope.md R13; 20_memory.md R51). -/
def Memory.writeBytes (m : Memory) (a : Addr) : Nat → Nat → Memory
  | 0, _ => m
  | n + 1, v => Memory.writeBytes (m.writeByte a.toNat (BitVec.ofNat 8 v)) (a + 1#32) n (v / 256)

/-- The byte the bus holds at an address. -/
def State.byteAt (s : State) (a : Addr) : Byte := s.mem.readByte a.toNat

/-! ## The ports (00_scope.md R8) -/

/-- How many bytes an access moves. -/
def AccessWidth.bytes : AccessWidth → Nat
  | .w16 => 2
  | .w32 => 4
  | .w64 => 8

/-- Something leaves the block. -/
def State.emit (s : State) (e : PortEvent) : State := { s with outputs := s.outputs ++ [e] }

/-- The value `MemRead(addr, n)` returns, zero-extended (00_scope.md R13; 20_memory.md R52). -/
def State.busValue (s : State) (a : Addr) (w : AccessWidth) : BitVec 64 := BitVec.ofNat 64 (s.mem.readBytes a w.bytes)

/-- The access `MemRead(addr, n)`: the value is `State.busValue`, the state only records that the access was made. -/
def State.busRead (s : State) (a : Addr) (w : AccessWidth) : State := s.emit (.memRead a w)

/-- The access `MemWrite(addr, n, v)` (00_scope.md R13). -/
def State.busWrite (s : State) (a : Addr) (w : AccessWidth) (v : BitVec 64) : State :=
  { s with mem := s.mem.writeBytes a w.bytes v.toNat }.emit (.memWrite a w v)

/-- The accumulator write `AX <- v` (00_scope.md R8 (b)). -/
def State.writeAx (s : State) (v : Word16) : State := { s with ax := v }.emit (.accumulator v)

/-! ## Draws (00_scope.md R16) -/

/-- The next draw. -/
def State.draw (s : State) : Slot := Config.draw64 s.draws

/-- The state after the next draw is taken, so that a later draw is another one. -/
def State.afterDraw (s : State) : State := { s with draws := s.draws + 1 }

/-! ## The register-stack controller (40_stack_controller.md) -/

/-- The physical slot of `ST(i)`: the 3-bit sum wraps modulo 8 (R100). -/
def State.phys (s : State) (i : StackIndex) : StackIndex := s.top + i

/-- `R[p]`. -/
def State.slot (s : State) (p : StackIndex) : Slot := s.slots[p.toNat]'p.isLt

/-- `R[p] <- v`. -/
def State.setSlot (s : State) (p : StackIndex) (v : Slot) : State := { s with slots := s.slots.set p.toNat v p.isLt }

/-- `ST[i]` (R103). -/
def State.st (s : State) (i : StackIndex) : Slot := s.slot (s.phys i)

/-- `ST[i] <- v` (R104). -/
def State.setSt (s : State) (i : StackIndex) (v : Slot) : State := s.setSlot (s.phys i) v

/-- `push(v)`: `top` goes down by one, then the slot at the new top is written; tags are left as they are (R101). -/
def State.push (s : State) (v : Slot) : State := { s with top := s.top - 1#3 }.setSlot (s.top - 1#3) v

/-- The two tag bits of a physical slot set: its tag is Empty = 3 (10_state.md R26, R27). -/
def emptyTag (tw : Word16) (p : StackIndex) : Word16 := tw ||| (3#16 <<< (2 * p.toNat))

/-- The tag of a physical slot: `TW[2p+1 : 2p]` (10_state.md R26). -/
def tagOf (tw : Word16) (p : StackIndex) : BitVec 2 := tw.extractLsb' (2 * p.toNat) 2

/-- The state `pop()` leaves: the old top's tag Empty, `top` up by one, the slot not written (R102). -/
def State.popState (s : State) : State := { s with tw := emptyTag s.tw s.top, top := s.top + 1#3 }

/-- `pop()`: the value that was on top, and the state after (R102). -/
def State.pop (s : State) : Slot × State := (s.slot s.top, s.popState)

/-! ## Fatal conditions (60_exceptions.md) -/

/-- Taking a fatal: `REPORT` and `HALTED` are written, the fatal port carries the report, and nothing else changes (R321,
R322, R330). There is no return from one (R331): only `RESET` goes on. -/
def State.raise (s : State) (r : Report) : State := { s with halted := true, report := some r }.emit (.fatal r)

/-- `raise Fatal.UnimplementedInstruction(g, sub, pc)` (R321). -/
def State.raiseInstruction (s : State) (g : BitVec 3) (modrm : Byte) : State :=
  s.raise (.unimplementedInstruction g (subOpcode modrm) s.port.pc)

/-- `raise Fatal.UnimplementedException(ZeroDivide, pc)` (R322). -/
def State.raiseZeroDivide (s : State) : State := s.raise (.unimplementedException .zeroDivide s.port.pc)

/-- The cause code of a report: 1 or 2 (R324). -/
def Report.causeCode : Report → Nat
  | .unimplementedInstruction _ _ _ => 1
  | .unimplementedException _ _ => 2

/-! ## Power-on and initialisation (70_reset_and_hazards.md) -/

/-- What no rule fixes before the first `RESET`: the launch parameters, `R_POWERON`, `TOP_POWERON` and the word and pointer
registers, each any value of its width (10_state.md R41, R42; R352). -/
structure LaunchParameters where
  slots : Vector Slot 8
  top : StackIndex
  tw : Word16
  cw : Word16
  sw : Word16
  lip : BitVec 32
  lop : Word16
  ldp : BitVec 32
deriving DecidableEq, Repr

/-- The power-on state of a launch: its parameters, and `HALTED = 0`, so with no report (10_state.md R41; R352). The collaborators
and the model's own fields are as in `State.reset`. -/
def State.powerOn (p : LaunchParameters) : State :=
  { State.reset with
    slots := p.slots, top := p.top, tw := p.tw, cw := p.cw, sw := p.sw, lip := p.lip, lop := p.lop, ldp := p.ldp,
    halted := false, report := none }

/-- What FNINIT and `RESET` have in common: the word registers at their reset values, the pointer registers cleared, `top` and
the slots not written (47_environment_control.md R271; 70_reset_and_hazards.md R350, R351). -/
def State.initWords (s : State) : State :=
  { s with cw := 0x037F#16, sw := 0x0000#16, tw := 0xFFFF#16, lip := 0#32, lop := 0#16, ldp := 0#32 }

/-- `RESET`: the same, and the halted latch and its report cleared (70_reset_and_hazards.md R350). -/
def State.assertReset (s : State) : State := { s.initWords with halted := false, report := none }

end Sys2Proof.Machine
end

