-- ==== Sys2Proof/Machine/Flags.lean ====
section
/-! DEFINITION. The fields of the status and control words and every computation over them: the condition codes
(43_compare.md R190, R198), the status-word image (10_state.md R33), clearing the exception flags
(47_environment_control.md R272). -/

namespace Sys2Proof.Machine

/-- C3, bit 14 (10_state.md R32). -/
def maskC3 : Word16 := 0x4000#16

/-- C2, bit 10 (10_state.md R32). -/
def maskC2 : Word16 := 0x0400#16

/-- C0, bit 8 (10_state.md R32). -/
def maskC0 : Word16 := 0x0100#16

/-- The word with C3, C2 and C0 cleared (43_compare.md R190). -/
def clearCC (sw : Word16) : Word16 := sw &&& 0xBAFF#16

/-- A mask where a condition holds. -/
def maskIf (b : Bool) (mask : Word16) : Word16 := if b then mask else 0#16

/-- `Compare(a, b)` on the status word: C3 if equal, C0 if less, C2 never (43_compare.md R190, R191). -/
def compareWord (sw : Word16) (a b : Slot) : Word16 :=
  clearCC sw ||| maskIf (Num.feq a b) maskC3 ||| maskIf (Num.flt a b) maskC0

/-- The three bits FCOMPP writes for unordered operands (43_compare.md R198). -/
def unorderedBits : Word16 :=
  maskIf Config.fcomppUnorderedCC.c3 maskC3 ||| maskIf Config.fcomppUnorderedCC.c2 maskC2
    ||| maskIf Config.fcomppUnorderedCC.c0 maskC0

/-- FCOMPP on the status word: greater, less, equal, and the branch for unordered operands (43_compare.md R198). -/
def comparePPWord (sw : Word16) (a b : Slot) : Word16 :=
  if Num.fgt a b then clearCC sw
  else if Num.flt a b then clearCC sw ||| maskC0
  else if Num.feq a b then clearCC sw ||| maskC3
  else clearCC sw ||| unorderedBits

/-- `SWImage`: bits 13:11 overwritten by `top` (10_state.md R33). -/
def State.swImage (s : State) : Word16 := (s.sw &&& 0xC7FF#16) ||| (s.top.setWidth 16 <<< 11)

/-- Bits 0 to 7 cleared (47_environment_control.md R272). -/
def clearExceptions (sw : Word16) : Word16 := sw &&& 0xFF00#16

/-- `CW.ZM`, bit 2: the zero-divide exception is masked (10_state.md R30). -/
def State.zeroDivideMasked (s : State) : Bool := s.cw.getLsbD 2

/-- `CW.RC`, bits 11:10 (10_state.md R30; 48_exchange_and_rounding.md R292). -/
def State.roundingControl (s : State) : BitVec 2 := s.cw.extractLsb' 10 2

/-- The status word written. -/
def State.setSw (s : State) (w : Word16) : State := { s with sw := w }

/-- The control word written, all 16 bits (10_state.md R31). -/
def State.setCw (s : State) (w : Word16) : State := { s with cw := w }

end Sys2Proof.Machine
end

