-- ==== Sys2Proof/Machine/Operands.lean ====
section
/-! DEFINITION. The operand accessors of 41_operand_resolver.md R124: each makes the one bus access of its row. A load answers
the operand and the state after the access; one that may meet a NaN takes a draw. -/

namespace Sys2Proof.Machine

/-- The operand of `LoadF32(ea)`: four bytes bit-cast to binary32 and widened exactly (R124, R125). -/
def f32Operand (s : State) (ea : Addr) : Slot := Num.f32ToF64 ((s.busValue ea .w32).setWidth 32) s.draw

/-- `LoadF32(ea)`. -/
def loadF32 (s : State) (ea : Addr) : Slot × State := (f32Operand s ea, (s.busRead ea .w32).afterDraw)

/-- The operand of `LoadF64(ea)`: eight bytes as they are (R124, R125). -/
def f64Operand (s : State) (ea : Addr) : Slot := s.busValue ea .w64

/-- `LoadF64(ea)`. -/
def loadF64 (s : State) (ea : Addr) : Slot × State := (f64Operand s ea, s.busRead ea .w64)

/-- The operand of `LoadI64(ea)`: eight bytes as a signed integer, converted by value (R124). -/
def i64Operand (s : State) (ea : Addr) : Slot := Num.i64ToF64 (s.busValue ea .w64)

/-- `LoadI64(ea)`. -/
def loadI64 (s : State) (ea : Addr) : Slot × State := (i64Operand s ea, s.busRead ea .w64)

/-- `LoadI32(ea)`, a capability no instruction uses (R126). -/
def loadI32 (s : State) (ea : Addr) : Slot × State :=
  (Num.i64ToF64 (((s.busValue ea .w32).setWidth 32).signExtend 64), s.busRead ea .w32)

/-- `Load16(ea)`: the 16 bits verbatim (R124). -/
def load16 (s : State) (ea : Addr) : Word16 × State := ((s.busValue ea .w16).setWidth 16, s.busRead ea .w16)

/-- `StoreF32(ea, x)`: the single view of `x`; the draw chooses the payload of a NaN (R124, R125). -/
def storeF32 (s : State) (ea : Addr) (x : Slot) : State :=
  (s.busWrite ea .w32 ((Num.f64ToF32 x s.draw).setWidth 64)).afterDraw

/-- `StoreF64(ea, x)`: `x` itself (R124). -/
def storeF64 (s : State) (ea : Addr) (x : Slot) : State := s.busWrite ea .w64 x

/-- `StoreI64(ea, n)`: the 64-bit integer pattern (R124). -/
def storeI64 (s : State) (ea : Addr) (n : BitVec 64) : State := s.busWrite ea .w64 n

/-- `Store16(ea, w)`: the 16 bits verbatim (R124). -/
def store16 (s : State) (ea : Addr) (w : Word16) : State := s.busWrite ea .w16 (w.setWidth 64)

/-- `Store16` of several words at `ea`, `ea + 2`, … modulo 2^32, ascending (20_memory.md R53, R56). -/
def store16s (s : State) (ea : Addr) : List Word16 → State
  | [] => s
  | w :: rest => store16s (store16 s ea w) (ea + 2#32) rest

end Sys2Proof.Machine
end

