-- ==== Sys2Proof/Machine/Arithmetic.lean ====
section
/-! DEFINITION. The arithmetic family (42_arithmetic.md): six operations in five forms. The forms are shared operations; each
instruction is one line over one of them. -/

namespace Sys2Proof.Machine

/-- The six operations (R140). -/
inductive ArithOp where
  | add
  | sub
  | subr
  | mul
  | div
  | divr
deriving DecidableEq, Repr

/-- `Op(d, s)` of R140: `dst` the destination value, `src` the source value, `nan` the draw for a NaN result. -/
def arithValue (op : ArithOp) (dst src nan : Slot) : Slot :=
  match op with
  | .add => Num.fadd dst src nan
  | .sub => Num.fsub dst src nan
  | .subr => Num.fsub src dst nan
  | .mul => Num.fmul dst src nan
  | .div => Num.fdiv dst src nan
  | .divr => Num.fdiv src dst nan

/-- Whether the operation divides and its divisor is a zero: the source of a divide, the destination of a reversed divide
(R140, R145). -/
def zeroDivisor (op : ArithOp) (dst src : Slot) : Bool :=
  match op with
  | .div => Num.isZero src
  | .divr => Num.isZero dst
  | _ => false

/-- The D8 and DC forms after their operands are read: the class 2 fatal on a zero divisor, before anything is written and
whatever the mask is; otherwise the result replaces `ST(i)` (R141 to R143, R145). -/
def arithInto (op : ArithOp) (i : StackIndex) (src : Slot) (s : State) : State :=
  if zeroDivisor op (s.st i) src then s.raiseZeroDivide
  else (s.setSt i (arithValue op (s.st i) src s.draw)).afterDraw

/-- Short memory form: `ST(0)` and a binary32 operand (R141). -/
def arithM32 (op : ArithOp) (s : State) : Result :=
  .next (arithInto op 0#3 (loadF32 s s.port.ea).1 (loadF32 s s.port.ea).2)

/-- Long memory form: `ST(0)` and a binary64 operand (R141). -/
def arithM64 (op : ArithOp) (s : State) : Result :=
  .next (arithInto op 0#3 (loadF64 s s.port.ea).1 (loadF64 s s.port.ea).2)

/-- Register form `ST, ST(i)` (R142). -/
def arithStSti (op : ArithOp) (i : StackIndex) (s : State) : Result := .next (arithInto op 0#3 (s.st i) s)

/-- Register form `ST(i), ST` (R143). -/
def arithStiSt (op : ArithOp) (i : StackIndex) (s : State) : Result := .next (arithInto op i (s.st 0#3) s)

/-- `PopDivide(n, dv)`: a zero divisor gives a signed infinity when masked and a draw when not; otherwise the quotient (R146). -/
def popDivide (masked : Bool) (n dv d : Slot) : Slot :=
  if Num.isZero dv then
    if masked then Num.pinf64 ||| ((n ^^^ dv) &&& Num.sign64) else d
  else Num.fdiv n dv d

/-- The value a pop form writes: `PopDivide` for the two divides, `Op(d, s)` for the others (R144, R146). -/
def popValue (op : ArithOp) (masked : Bool) (dst src d : Slot) : Slot :=
  match op with
  | .div => popDivide masked dst src d
  | .divr => popDivide masked src dst d
  | .add => arithValue .add dst src d
  | .sub => arithValue .sub dst src d
  | .subr => arithValue .subr dst src d
  | .mul => arithValue .mul dst src d

/-- Pop form: the result is written into `ST(i)`, then one pop (R144). -/
def arithPop (op : ArithOp) (i : StackIndex) (s : State) : Result :=
  .next ((s.setSt i (popValue op s.zeroDivideMasked (s.st i) (s.st 0#3) s.draw)).afterDraw.pop.2)

/-! ## Short memory forms (R150 to R155) -/

/-- FADD m32 (R150). -/
def execFaddM32 (_m : AddrMode) (s : State) : Result := arithM32 .add s

/-- FMUL m32 (R151). -/
def execFmulM32 (_m : AddrMode) (s : State) : Result := arithM32 .mul s

/-- FSUB m32 (R152). -/
def execFsubM32 (_m : AddrMode) (s : State) : Result := arithM32 .sub s

/-- FSUBR m32 (R153). -/
def execFsubrM32 (_m : AddrMode) (s : State) : Result := arithM32 .subr s

/-- FDIV m32 (R154). -/
def execFdivM32 (_m : AddrMode) (s : State) : Result := arithM32 .div s

/-- FDIVR m32 (R155). -/
def execFdivrM32 (_m : AddrMode) (s : State) : Result := arithM32 .divr s

/-! ## Long memory forms (R156 to R161) -/

/-- FADD m64 (R156). -/
def execFaddM64 (_m : AddrMode) (s : State) : Result := arithM64 .add s

/-- FMUL m64 (R157). -/
def execFmulM64 (_m : AddrMode) (s : State) : Result := arithM64 .mul s

/-- FSUB m64 (R158). -/
def execFsubM64 (_m : AddrMode) (s : State) : Result := arithM64 .sub s

/-- FSUBR m64 (R159). -/
def execFsubrM64 (_m : AddrMode) (s : State) : Result := arithM64 .subr s

/-- FDIV m64 (R160). -/
def execFdivM64 (_m : AddrMode) (s : State) : Result := arithM64 .div s

/-- FDIVR m64 (R161). -/
def execFdivrM64 (_m : AddrMode) (s : State) : Result := arithM64 .divr s

/-! ## Register forms `ST, ST(i)` (R162 to R167) -/

/-- FADD ST, ST(i) (R162). -/
def execFaddStSti (i : StackIndex) (s : State) : Result := arithStSti .add i s

/-- FMUL ST, ST(i) (R163). -/
def execFmulStSti (i : StackIndex) (s : State) : Result := arithStSti .mul i s

/-- FSUB ST, ST(i) (R164). -/
def execFsubStSti (i : StackIndex) (s : State) : Result := arithStSti .sub i s

/-- FSUBR ST, ST(i) (R165). -/
def execFsubrStSti (i : StackIndex) (s : State) : Result := arithStSti .subr i s

/-- FDIV ST, ST(i) (R166). -/
def execFdivStSti (i : StackIndex) (s : State) : Result := arithStSti .div i s

/-- FDIVR ST, ST(i) (R167). -/
def execFdivrStSti (i : StackIndex) (s : State) : Result := arithStSti .divr i s

/-! ## Register forms `ST(i), ST` (R168 to R173) -/

/-- FADD ST(i), ST (R168). -/
def execFaddStiSt (i : StackIndex) (s : State) : Result := arithStiSt .add i s

/-- FMUL ST(i), ST (R169). -/
def execFmulStiSt (i : StackIndex) (s : State) : Result := arithStiSt .mul i s

/-- FSUB ST(i), ST (R170). -/
def execFsubStiSt (i : StackIndex) (s : State) : Result := arithStiSt .sub i s

/-- FSUBR ST(i), ST (R171). -/
def execFsubrStiSt (i : StackIndex) (s : State) : Result := arithStiSt .subr i s

/-- FDIV ST(i), ST (R172). -/
def execFdivStiSt (i : StackIndex) (s : State) : Result := arithStiSt .div i s

/-- FDIVR ST(i), ST (R173). -/
def execFdivrStiSt (i : StackIndex) (s : State) : Result := arithStiSt .divr i s

/-! ## Pop forms (R174 to R179) -/

/-- FADDP ST(i), ST (R174). -/
def execFaddpStiSt (i : StackIndex) (s : State) : Result := arithPop .add i s

/-- FMULP ST(i), ST (R175). -/
def execFmulpStiSt (i : StackIndex) (s : State) : Result := arithPop .mul i s

/-- FSUBP ST(i), ST (R176). -/
def execFsubpStiSt (i : StackIndex) (s : State) : Result := arithPop .sub i s

/-- FSUBRP ST(i), ST (R177). -/
def execFsubrpStiSt (i : StackIndex) (s : State) : Result := arithPop .subr i s

/-- FDIVP ST(i), ST (R178). -/
def execFdivpStiSt (i : StackIndex) (s : State) : Result := arithPop .div i s

/-- FDIVRP ST(i), ST (R179). -/
def execFdivrpStiSt (i : StackIndex) (s : State) : Result := arithPop .divr i s

end Sys2Proof.Machine
end

