-- ==== Sys2Proof/Machine/Compare.lean ====
section
/-! DEFINITION. The comparison family (43_compare.md): the flags first, then the pops (R199). -/

namespace Sys2Proof.Machine

/-- `Compare(ST[0], b)` (R190). -/
def compareWith (b : Slot) (s : State) : State := s.setSw (compareWord s.sw (s.st 0#3) b)

/-- The comparison with a binary32 operand. -/
def compareM32 (s : State) : State := compareWith (loadF32 s s.port.ea).1 (loadF32 s s.port.ea).2

/-- The comparison with a binary64 operand. -/
def compareM64 (s : State) : State := compareWith (loadF64 s s.port.ea).1 (loadF64 s s.port.ea).2

/-- FCOM m32 (R192). -/
def execFcomM32 (_m : AddrMode) (s : State) : Result := .next (compareM32 s)

/-- FCOMP m32 (R193). -/
def execFcompM32 (_m : AddrMode) (s : State) : Result := .next (compareM32 s).pop.2

/-- FCOM m64 (R194). -/
def execFcomM64 (_m : AddrMode) (s : State) : Result := .next (compareM64 s)

/-- FCOMP m64 (R195). -/
def execFcompM64 (_m : AddrMode) (s : State) : Result := .next (compareM64 s).pop.2

/-- FCOM ST(i) (R196). -/
def execFcomSti (i : StackIndex) (s : State) : Result := .next (compareWith (s.st i) s)

/-- FCOMP ST(i) (R197). -/
def execFcompSti (i : StackIndex) (s : State) : Result := .next (compareWith (s.st i) s).pop.2

/-- FCOMPP (R198). -/
def execFcompp (s : State) : Result := .next (s.setSw (comparePPWord s.sw (s.st 0#3) (s.st 1#3))).pop.2.pop.2

end Sys2Proof.Machine
end

