-- ==== Sys2Proof/Machine/Constants.lean ====
section
/-! DEFINITION. The constant loads and their table CONST (45_constants.md). -/

namespace Sys2Proof.Machine

/-- The table CONST of R240, the binary64 nearest to each constant (log entry 10). -/
def constTable : Nat → Slot
  | 0 => 0x3FF0000000000000#64
  | 1 => 0x400A934F0979A371#64
  | 2 => 0x3FF71547652B82FE#64
  | 3 => 0x400921FB54442D18#64
  | 4 => 0x3FD34413509F79FF#64
  | 5 => 0x3FE62E42FEFA39EF#64
  | _ => 0x0000000000000000#64

/-- FLD1: 1.0 (R241). -/
def execFld1 (s : State) : Result := .next (s.push (constTable 0))

/-- FLDL2T: log2(10) (R242). -/
def execFldl2t (s : State) : Result := .next (s.push (constTable 1))

/-- FLDL2E: log2(e) (R243). -/
def execFldl2e (s : State) : Result := .next (s.push (constTable 2))

/-- FLDPI: pi (R244). -/
def execFldpi (s : State) : Result := .next (s.push (constTable 3))

/-- FLDLG2: log10(2) (R245). -/
def execFldlg2 (s : State) : Result := .next (s.push (constTable 4))

/-- FLDLN2: ln(2) (R246). -/
def execFldln2 (s : State) : Result := .next (s.push (constTable 5))

/-- FLDZ: +0.0 (R247). -/
def execFldz (s : State) : Result := .next (s.push (constTable 6))

end Sys2Proof.Machine
end

