-- ==== Sys2Proof/Machine/Environment.lean ====
section
/-! DEFINITION. Environment and control (47_environment_control.md). -/

namespace Sys2Proof.Machine

/-- FLDCW m16: all 16 bits, verbatim (R266). -/
def execFldcwM16 (_m : AddrMode) (s : State) : Result :=
  .next ((load16 s s.port.ea).2.setCw (load16 s s.port.ea).1)

/-- FNSTCW m16 (R267). -/
def execFnstcwM16 (_m : AddrMode) (s : State) : Result := .next (store16 s s.port.ea s.cw)

/-- The top nibble of the instruction pointer, `LIP[19:16]` (R268). -/
def ipNibble (s : State) : Word16 := (s.lip.extractLsb' 16 4).setWidth 16

/-- The seven words of the environment image, in ascending address order; the status word is the stored one (R268). -/
def envWords (s : State) : List Word16 :=
  [s.cw, s.sw, s.tw, s.lip.extractLsb' 0 16, (s.lop &&& 0x07FF#16) ||| (ipNibble s <<< 11), s.ldp.extractLsb' 0 16,
    ipNibble s]

/-- FNSTENV m14 (R268). -/
def execFnstenvM14 (_m : AddrMode) (s : State) : Result := .next (store16s s s.port.ea (envWords s))

/-- FNSTSW m16: the image, with `top` inserted (R269). -/
def execFnstswM16 (_m : AddrMode) (s : State) : Result := .next (store16 s s.port.ea s.swImage)

/-- FNSTSW AX: the image to the accumulator port (R270). -/
def execFnstswAx (s : State) : Result := .next (s.writeAx s.swImage)

/-- FNINIT (R271). -/
def execFninit (s : State) : Result := .next s.initWords

/-- FNCLEX (R272). -/
def execFnclex (s : State) : Result := .next (s.setSw (clearExceptions s.sw))

/-- FSETPM: a defined instruction that changes nothing (R273). -/
def execFsetpm (s : State) : Result := .next s

end Sys2Proof.Machine
end

