-- ==== Sys2Proof/Machine/Rounding.lean ====
section
/-! DEFINITION. The rounding and conversion engine (48_exchange_and_rounding.md R291 to R299). -/

namespace Sys2Proof.Machine

/-- `RoundNearest(x)`: add 0.5, a rounded addition, then the floor through a 64-bit integer; the draw when the sum is a NaN, an
infinity or outside the integer range (R293). -/
def roundNearest (x d : Slot) : Slot :=
  match Num.unpack64 (Num.fadd x Num.half64 d) with
  | .nan => d
  | .inf _ => d
  | .fin s m =>
    if Num.fitsI64 (Num.floorInt s m) then Num.i64ToF64 (BitVec.ofInt 64 (Num.floorInt s m)) else d

/-- `Round(x, rc)`: 0 nearest, 1 down, 2 up, 3 chop (R291, R292, R294 to R296). -/
def round (x : Slot) (rc : BitVec 2) (d : Slot) : Slot :=
  match rc.toNat with
  | 0 => roundNearest x d
  | 1 => Num.roundIntegral .down x d
  | 2 => Num.roundIntegral .up x d
  | _ => Num.roundIntegral .chop x d

end Sys2Proof.Machine
end

