-- ==== Sys2Proof/Machine/Exchange.lean ====
section
/-! DEFINITION. FXCH and FRNDINT (48_exchange_and_rounding.md). -/

namespace Sys2Proof.Machine

/-- FXCH ST(i): the values move, the tags stay (R290). -/
def execFxchSti (i : StackIndex) (s : State) : Result := .next ((s.setSt 0#3 (s.st i)).setSt i (s.st 0#3))

/-- FRNDINT: `ST[0] <- Round(ST[0], CW[11:10])` (R301). -/
def execFrndint (s : State) : Result :=
  .next (s.setSt 0#3 (round (s.st 0#3) s.roundingControl s.draw)).afterDraw

end Sys2Proof.Machine
end

