-- ==== Sys2Proof/Machine/LoadStore.lean ====
section
/-! DEFINITION. Loads, stores and conversions (44_load_store_convert.md). -/

namespace Sys2Proof.Machine

/-- FLD m32 (R212). -/
def execFldM32 (_m : AddrMode) (s : State) : Result := .next ((loadF32 s s.port.ea).2.push (loadF32 s s.port.ea).1)

/-- FLD m64 (R213). -/
def execFldM64 (_m : AddrMode) (s : State) : Result := .next ((loadF64 s s.port.ea).2.push (loadF64 s s.port.ea).1)

/-- FILD m64 (R214). -/
def execFildM64 (_m : AddrMode) (s : State) : Result := .next ((loadI64 s s.port.ea).2.push (loadI64 s s.port.ea).1)

/-- FLD ST(i): the register is read before the push (R215). -/
def execFldSti (i : StackIndex) (s : State) : Result := .next (s.push (s.st i))

/-- FST m32 (R216). -/
def execFstM32 (_m : AddrMode) (s : State) : Result := .next (storeF32 s s.port.ea (s.st 0#3))

/-- FST m64 (R217). -/
def execFstM64 (_m : AddrMode) (s : State) : Result := .next (storeF64 s s.port.ea (s.st 0#3))

/-- FSTP m32 (R218). -/
def execFstpM32 (_m : AddrMode) (s : State) : Result := .next (storeF32 s s.port.ea (s.st 0#3)).pop.2

/-- FSTP m64 (R219). -/
def execFstpM64 (_m : AddrMode) (s : State) : Result := .next (storeF64 s s.port.ea (s.st 0#3)).pop.2

/-- The integer FISTP stores: `F64toI64(Round(ST[0], CW[11:10]))`, the rounding's draw and then the conversion's (R220). -/
def fistpValue (s : State) : BitVec 64 :=
  Num.f64ToI64 (round (s.st 0#3) s.roundingControl s.draw) s.afterDraw.draw

/-- FISTP m64: the slot is not rounded (R220). -/
def execFistpM64 (_m : AddrMode) (s : State) : Result :=
  .next (storeI64 s.afterDraw.afterDraw s.port.ea (fistpValue s)).pop.2

end Sys2Proof.Machine
end

