-- ==== Sys2Proof/Machine/Transcendental.lean ====
section
/-! DEFINITION. The two transcendentals over their OPEN functions; neither goes on into another instruction
(46_transcendental.md R255, R259). -/

namespace Sys2Proof.Machine

/-- F2XM1 (R256). -/
def execF2xm1 (s : State) : Result := .next (s.setSt 0#3 (Config.fn2xm1 (s.st 0#3)))

/-- FYL2X: the product is written into `ST(1)`, then one pop (R257). -/
def execFyl2x (s : State) : Result :=
  .next ((s.setSt 1#3 (Num.fmul (s.st 1#3) (Config.fnLog2 (s.st 0#3)) s.draw)).afterDraw.pop.2)

end Sys2Proof.Machine
end

