-- ==== Sys2Proof/Machine/Undefined.lean ====
section
/-! DEFINITION. The undefined encodings: the class 1 fatal (30_encoding.md R78; 60_exceptions.md R321). -/

namespace Sys2Proof.Machine

/-- Every pair outside the opcode map: the report names group, sub-opcode and pc, the latch is set, and no bus access is made
(60_exceptions.md R321, R326). -/
def execUndefined (g : BitVec 3) (modrm : Byte) (s : State) : Result := .next (s.raiseInstruction g modrm)

end Sys2Proof.Machine
end

