-- ==== Sys2Proof/Machine/Dispatch.lean ====
section
/-! DEFINITION. The dispatch: one arm per instruction, in the opcode table's order. -/

namespace Sys2Proof.Machine

/-- What an instruction that the block accepts does. The check of the halted latch comes before decoding, in `accept`
(60_exceptions.md R329). -/
def exec (i : Instr) (s : State) : Host.Outcome State Fault Refusal :=
  match i with
  | .faddM32 m => Sys2Proof.Machine.execFaddM32 m s
  | .fmulM32 m => Sys2Proof.Machine.execFmulM32 m s
  | .fcomM32 m => Sys2Proof.Machine.execFcomM32 m s
  | .fcompM32 m => Sys2Proof.Machine.execFcompM32 m s
  | .fsubM32 m => Sys2Proof.Machine.execFsubM32 m s
  | .fsubrM32 m => Sys2Proof.Machine.execFsubrM32 m s
  | .fdivM32 m => Sys2Proof.Machine.execFdivM32 m s
  | .fdivrM32 m => Sys2Proof.Machine.execFdivrM32 m s
  | .faddStSti j => Sys2Proof.Machine.execFaddStSti j s
  | .fmulStSti j => Sys2Proof.Machine.execFmulStSti j s
  | .fcomSti j => Sys2Proof.Machine.execFcomSti j s
  | .fcompSti j => Sys2Proof.Machine.execFcompSti j s
  | .fsubStSti j => Sys2Proof.Machine.execFsubStSti j s
  | .fsubrStSti j => Sys2Proof.Machine.execFsubrStSti j s
  | .fdivStSti j => Sys2Proof.Machine.execFdivStSti j s
  | .fdivrStSti j => Sys2Proof.Machine.execFdivrStSti j s
  | .fldM32 m => Sys2Proof.Machine.execFldM32 m s
  | .fstM32 m => Sys2Proof.Machine.execFstM32 m s
  | .fstpM32 m => Sys2Proof.Machine.execFstpM32 m s
  | .fldcwM16 m => Sys2Proof.Machine.execFldcwM16 m s
  | .fnstenvM14 m => Sys2Proof.Machine.execFnstenvM14 m s
  | .fnstcwM16 m => Sys2Proof.Machine.execFnstcwM16 m s
  | .fldSti j => Sys2Proof.Machine.execFldSti j s
  | .fxchSti j => Sys2Proof.Machine.execFxchSti j s
  | .fld1 => Sys2Proof.Machine.execFld1 s
  | .fldl2t => Sys2Proof.Machine.execFldl2t s
  | .fldl2e => Sys2Proof.Machine.execFldl2e s
  | .fldpi => Sys2Proof.Machine.execFldpi s
  | .fldlg2 => Sys2Proof.Machine.execFldlg2 s
  | .fldln2 => Sys2Proof.Machine.execFldln2 s
  | .fldz => Sys2Proof.Machine.execFldz s
  | .f2xm1 => Sys2Proof.Machine.execF2xm1 s
  | .fyl2x => Sys2Proof.Machine.execFyl2x s
  | .frndint => Sys2Proof.Machine.execFrndint s
  | .fnclex => Sys2Proof.Machine.execFnclex s
  | .fninit => Sys2Proof.Machine.execFninit s
  | .fsetpm => Sys2Proof.Machine.execFsetpm s
  | .faddM64 m => Sys2Proof.Machine.execFaddM64 m s
  | .fmulM64 m => Sys2Proof.Machine.execFmulM64 m s
  | .fcomM64 m => Sys2Proof.Machine.execFcomM64 m s
  | .fcompM64 m => Sys2Proof.Machine.execFcompM64 m s
  | .fsubM64 m => Sys2Proof.Machine.execFsubM64 m s
  | .fsubrM64 m => Sys2Proof.Machine.execFsubrM64 m s
  | .fdivM64 m => Sys2Proof.Machine.execFdivM64 m s
  | .fdivrM64 m => Sys2Proof.Machine.execFdivrM64 m s
  | .faddStiSt j => Sys2Proof.Machine.execFaddStiSt j s
  | .fmulStiSt j => Sys2Proof.Machine.execFmulStiSt j s
  | .fsubrStiSt j => Sys2Proof.Machine.execFsubrStiSt j s
  | .fsubStiSt j => Sys2Proof.Machine.execFsubStiSt j s
  | .fdivrStiSt j => Sys2Proof.Machine.execFdivrStiSt j s
  | .fdivStiSt j => Sys2Proof.Machine.execFdivStiSt j s
  | .fldM64 m => Sys2Proof.Machine.execFldM64 m s
  | .fstM64 m => Sys2Proof.Machine.execFstM64 m s
  | .fstpM64 m => Sys2Proof.Machine.execFstpM64 m s
  | .fnstswM16 m => Sys2Proof.Machine.execFnstswM16 m s
  | .faddpStiSt j => Sys2Proof.Machine.execFaddpStiSt j s
  | .fmulpStiSt j => Sys2Proof.Machine.execFmulpStiSt j s
  | .fcompp => Sys2Proof.Machine.execFcompp s
  | .fsubrpStiSt j => Sys2Proof.Machine.execFsubrpStiSt j s
  | .fsubpStiSt j => Sys2Proof.Machine.execFsubpStiSt j s
  | .fdivrpStiSt j => Sys2Proof.Machine.execFdivrpStiSt j s
  | .fdivpStiSt j => Sys2Proof.Machine.execFdivpStiSt j s
  | .fildM64 m => Sys2Proof.Machine.execFildM64 m s
  | .fistpM64 m => Sys2Proof.Machine.execFistpM64 m s
  | .fnstswAx => Sys2Proof.Machine.execFnstswAx s
  | .undefined g modrm => Sys2Proof.Machine.execUndefined g modrm s

end Sys2Proof.Machine
end

