-- ==== Sys2Proof/Machine/Present.lean ====
section
/-! DEFINITION. How the block takes what the host does at its inputs (00_scope.md R7, R8; 60_exceptions.md R327, R329). -/

namespace Sys2Proof.Machine

/-- The end of an instruction: one that completed reports its cycle count, one that ended in a fatal reports none
(60_exceptions.md R326; 70_reset_and_hazards.md R357). -/
def State.endInstruction (s : State) : State :=
  if s.halted then s else s.emit (.cycles (Config.cycles s.port.esc s.port.modrm))

/-- The end of an instruction on what executing it answers. -/
def finish : Result → Result
  | .next s => .next s.endInstruction
  | .fault r => .fault r
  | .refused r => .refused r

/-- The tuple sampled at the instruction port (00_scope.md R7; 10_state.md R36). -/
def State.sample (s : State) (p : Presented) : State := { s with port := p }

/-- An instruction presented at the port: no effect while halted (60_exceptions.md R327); otherwise it is decoded and executed
(R329). A byte that is no escape byte is refused (30_encoding.md R71). -/
def accept (p : Presented) (s : State) : Result :=
  if s.halted then .next s
  else match decode p.esc p.modrm with
    | .ok i => finish (exec i (s.sample p))
    | .error (.notEscape esc) => .refused (.notEscape esc)

/-- One input of the host taken. -/
def takeInput (h : HostInput) (s : State) : Result :=
  match h with
  | .instr p => accept p s
  | .reset => .next s.assertReset

/-- The inputs left to take. -/
def State.setInputs (s : State) (rest : List HostInput) : State := { s with inputs := rest }

/-- The state in which the next thing the host does is to present the word `iw`, with the `ea` and `pc` now at the port. -/
def State.presentNext (s : State) (iw : Word16) : State :=
  s.setInputs (.instr { s.port with esc := iw.extractLsb' 8 8, modrm := iw.extractLsb' 0 8 } :: s.inputs)

end Sys2Proof.Machine
end

