-- ==== Sys2Proof/Machine/Step.lean ====
section
/-! DEFINITION. The step: the block takes the next thing the host does (00_scope.md R9). -/

namespace Sys2Proof.Machine

/-- One step. With nothing presented and no `RESET` the block does nothing (log entry 12). -/
def step (s : State) : Host.Outcome State Fault Refusal :=
  match s.inputs with
  | [] => .next s
  | h :: rest => takeInput h (s.setInputs rest)

/-- `s` with the instruction whose word is `w`, numbered as spec/opcode_table.json numbers it, as the next one the host
presents; its `ea` and `pc` are those now at the port. -/
def State.withFetchWord (s : State) (nbits w : Nat) : State := s.presentNext (tableWord nbits w)

end Sys2Proof.Machine
end

