-- ==== Sys2Proof/Safety.lean ====
section
/-! DEFINITION. The terms the claims are stated in: what an instruction leaves as it was, what a pop does to `top` and the tags,
and what holds of every state from a reset on. -/

namespace Sys2Proof.Machine

/-! ## Frames -/

/-- What no instruction but FNINIT and a fatal writes: the pointer registers, the halted latch and its report; and the model's
own port and inputs. -/
def RestKept (s t : State) : Prop :=
  t.lip = s.lip ∧ t.lop = s.lop ∧ t.ldp = s.ldp ∧ t.halted = s.halted ∧ t.report = s.report ∧ t.port = s.port
    ∧ t.inputs = s.inputs

/-- Every byte of memory reads as before. -/
def MemoryKept (s t : State) : Prop := ∀ a : Addr, t.byteAt a = s.byteAt a

/-- Every byte outside the `n` bytes at `ea` (addresses modulo 2^32) reads as before. -/
def MemoryKeptOutside (s t : State) (ea : Addr) (n : Nat) : Prop := ∀ a : Addr, n ≤ (a - ea).toNat → t.byteAt a = s.byteAt a

/-- The `n` bytes at `ea` hold `v`, little-endian: byte `k` is `v[8k+7 : 8k]` (20_memory.md R51). -/
def BytesHold (t : State) (ea : Addr) (n : Nat) (v : BitVec 64) : Prop :=
  ∀ k : Nat, k < n → t.byteAt (ea + BitVec.ofNat 32 k) = v.extractLsb' (8 * k) 8

/-- Every physical slot but those named holds what it held. -/
def SlotsKeptExcept (s t : State) (written : List StackIndex) : Prop :=
  ∀ p : StackIndex, p ∉ written → t.slot p = s.slot p

/-- `top` and the tags after `n` pops: each popped slot's tag is Empty, every other tag is as it was (40_stack_controller.md
R102). -/
def Popped (s t : State) (popped : List StackIndex) : Prop :=
  t.top = s.top + BitVec.ofNat 3 popped.length ∧ (∀ p ∈ popped, tagOf t.tw p = 3#2)
    ∧ ∀ p : StackIndex, p ∉ popped → tagOf t.tw p = tagOf s.tw p

/-- Nothing of the stack moves: `top` and the tag word are as they were. -/
def StackStays (s t : State) : Prop := t.top = s.top ∧ t.tw = s.tw

/-- The frame of an instruction that writes the register `ST(i)` and nothing else of the block, and whose traffic at the ports is
`traffic`. -/
def OnlyRegisterWritten (s t : State) (i : StackIndex) (traffic : List PortEvent) : Prop :=
  SlotsKeptExcept s t [s.phys i] ∧ StackStays s t ∧ t.cw = s.cw ∧ t.sw = s.sw ∧ t.ax = s.ax ∧ RestKept s t
    ∧ MemoryKept s t ∧ t.outputs = s.outputs ++ traffic

/-- The frame of an instruction that writes `ST(i)` and then pops once, with no traffic. -/
def RegisterWrittenAndPopped (s t : State) (i : StackIndex) : Prop :=
  SlotsKeptExcept s t [s.phys i] ∧ Popped s t [s.top] ∧ t.cw = s.cw ∧ t.sw = s.sw ∧ t.ax = s.ax ∧ RestKept s t
    ∧ MemoryKept s t ∧ t.outputs = s.outputs

/-- The frame of a push: `top` down by one, the slot at the new top written, and nothing else. -/
def OnlyPushed (s t : State) (traffic : List PortEvent) : Prop :=
  t.top = s.top - 1#3 ∧ SlotsKeptExcept s t [s.top - 1#3] ∧ t.tw = s.tw ∧ t.cw = s.cw ∧ t.sw = s.sw ∧ t.ax = s.ax
    ∧ RestKept s t ∧ MemoryKept s t ∧ t.outputs = s.outputs ++ traffic

/-- The frame of a store of `v` at `ea`: its `n` bytes hold `v`, every other byte is as it was, and of the block nothing is
written but what the caller says of the stack. -/
def OnlyStored (s t : State) (ea : Addr) (width : AccessWidth) (v : BitVec 64) : Prop :=
  BytesHold t ea width.bytes v ∧ MemoryKeptOutside s t ea width.bytes ∧ SlotsKeptExcept s t [] ∧ t.cw = s.cw ∧ t.sw = s.sw
    ∧ t.ax = s.ax ∧ RestKept s t ∧ t.outputs = s.outputs ++ [.memWrite ea width v]

/-- What a comparison writes: C3 when equal, C0 when less, C2 never, every other status bit as it was (43_compare.md R190,
R191); no slot, no byte of memory and nothing else is written but what the caller says of the stack. -/
def OnlyCompared (s t : State) (a b : Slot) (traffic : List PortEvent) : Prop :=
  t.sw.getLsbD 14 = Num.feq a b ∧ t.sw.getLsbD 8 = Num.flt a b ∧ t.sw.getLsbD 10 = false
    ∧ t.sw &&& 0xBAFF#16 = s.sw &&& 0xBAFF#16 ∧ SlotsKeptExcept s t [] ∧ t.cw = s.cw ∧ t.ax = s.ax ∧ RestKept s t
    ∧ MemoryKept s t ∧ t.outputs = s.outputs ++ traffic

/-- Everything but the halted latch, its report, the record at the ports and the number of draws is as it was: the state a fatal
leaves (60_exceptions.md R326). -/
def ArchitecturalStateKept (s t : State) : Prop :=
  t.slots = s.slots ∧ t.top = s.top ∧ t.tw = s.tw ∧ t.cw = s.cw ∧ t.sw = s.sw ∧ t.lip = s.lip ∧ t.lop = s.lop
    ∧ t.ldp = s.ldp ∧ t.mem = s.mem ∧ t.ax = s.ax ∧ t.port = s.port ∧ t.inputs = s.inputs

/-- A class 2 fatal at `t` (60_exceptions.md R322, R326): the latch and the report, the architectural state of before, and at
the ports the operand's read, if any, and the report. -/
def ZeroDivideFatal (s t : State) (traffic : List PortEvent) : Prop :=
  ArchitecturalStateKept s t ∧ t.halted = true ∧ t.report = some (.unimplementedException .zeroDivide s.port.pc)
    ∧ t.outputs = s.outputs ++ traffic ++ [.fatal (.unimplementedException .zeroDivide s.port.pc)]

/-- The outcome with its state passed through a function, to compare two outcomes less one field. -/
def mapNext (f : State → State) : Result → Result
  | .next s => .next (f s)
  | .fault r => .fault r
  | .refused r => .refused r

/-! ## Instructions by their encoding -/

/-- The encoding `esc /n`: the escape byte is `esc`, `modrm[7:6]` is not 3, so that the form is memory form, and `sub3` is `n`
(30_encoding.md R73, R74, R77). -/
def EncodedInMemoryForm (i : Instr) (esc : Byte) (n : BitVec 3) : Prop :=
  (encode i).extractLsb' 8 8 = esc ∧ (encode i).extractLsb' 6 2 ≠ 3#2 ∧ (encode i).extractLsb' 3 3 = n

/-! ## Instructions by what they do -/

/-- The thirty instructions of the arithmetic family (42_arithmetic.md). -/
def isArithmetic : Instr → Bool
  | .faddM32 _ | .fmulM32 _ | .fsubM32 _ | .fsubrM32 _ | .fdivM32 _ | .fdivrM32 _ => true
  | .faddM64 _ | .fmulM64 _ | .fsubM64 _ | .fsubrM64 _ | .fdivM64 _ | .fdivrM64 _ => true
  | .faddStSti _ | .fmulStSti _ | .fsubStSti _ | .fsubrStSti _ | .fdivStSti _ | .fdivrStSti _ => true
  | .faddStiSt _ | .fmulStiSt _ | .fsubStiSt _ | .fsubrStiSt _ | .fdivStiSt _ | .fdivrStiSt _ => true
  | .faddpStiSt _ | .fmulpStiSt _ | .fsubpStiSt _ | .fsubrpStiSt _ | .fdivpStiSt _ | .fdivrpStiSt _ => true
  | _ => false

/-- By how much a completed instruction moves `top`: loads and constants push once, the P forms pop once, FCOMPP twice
(10_state.md R25). -/
def topShift : Instr → StackIndex
  | .fldM32 _ | .fldM64 _ | .fildM64 _ | .fldSti _ => 7#3
  | .fld1 | .fldl2t | .fldl2e | .fldpi | .fldlg2 | .fldln2 | .fldz => 7#3
  | .faddpStiSt _ | .fmulpStiSt _ | .fsubpStiSt _ | .fsubrpStiSt _ | .fdivpStiSt _ | .fdivrpStiSt _ => 1#3
  | .fcompM32 _ | .fcompM64 _ | .fcompSti _ | .fstpM32 _ | .fstpM64 _ | .fistpM64 _ | .fyl2x => 1#3
  | .fcompp => 2#3
  | _ => 0#3

/-- The instructions that copy `CW` to memory (10_state.md R31). -/
def storesControlWord : Instr → Bool
  | .fnstcwM16 _ | .fnstenvM14 _ => true
  | _ => false

/-- The instructions whose result depends on `CW.ZM`, bit 2: the two pop divides (10_state.md R30; 42_arithmetic.md R147). -/
def readsZeroDivideMask : Instr → Bool
  | .fdivpStiSt _ | .fdivrpStiSt _ => true
  | _ => false

/-- The instructions whose result depends on `CW.RC`, bits 11:10: FRNDINT and FISTP (10_state.md R30; 48_exchange_and_rounding.md
R291, R292). -/
def readsRoundingControl : Instr → Bool
  | .frndint | .fistpM64 _ => true
  | _ => false

/-- The instruction that copies `TW` to memory, the only reader of the tags (10_state.md R28). -/
def storesTagWord : Instr → Bool
  | .fnstenvM14 _ => true
  | _ => false

/-! ## What holds from a reset on -/

/-- The invariant of a session that began with a reset: the memory keeps its canonical form, every tag is Empty (10_state.md
R29), no status bit but C3, C2 and C0 is set (R35), the pointer registers are zero (R34), and the latch is set exactly when
there is a report (60_exceptions.md R327). -/
def SessionInvariant (s : State) : Prop :=
  s.mem.wf = true ∧ s.tw = 0xFFFF#16 ∧ s.sw &&& 0xBAFF#16 = 0#16 ∧ s.lip = 0#32 ∧ s.lop = 0#16 ∧ s.ldp = 0#32
    ∧ s.halted = s.report.isSome

/-! ## Numbers (00_scope.md R17) -/

/-- How far apart two integers are. -/
def distance (a b : Int) : Nat := (a - b).natAbs

/-- The magnitude, in least units of the format, of the finite pattern with `frac` fraction bits whose exponent and fraction fields
read as `p`. -/
def magOfPattern (frac p : Nat) : Nat := Num.fieldMag frac (p / 2 ^ frac) (p % 2 ^ frac)

/-- A value as a signed integer of least units, none for an infinity or a NaN. -/
def fpValue : Num.Fp → Option Int
  | .fin s m => some (Num.signedInt s m)
  | .inf _ => none
  | .nan => none

/-- The signed value of a finite double in units of 2^-1074. -/
def exactValue (x : Slot) : Option Int := fpValue (Num.unpack64 x)

/-- The signed value of a finite single in units of 2^-149. -/
def exactValue32 (w : Word32) : Option Int := fpValue (Num.unpack32 w)

/-- Half a unit beyond the largest finite double, in units of 2^-1074: from here on a magnitude rounds to infinity. -/
def overflow64 : Nat := 18014398509481983 <<< 2044

/-- Half a unit beyond the largest finite single, in units of 2^-149. -/
def overflow32 : Nat := 33554431 <<< 252

/-- Narrowing to `frac` fraction bits is to nearest, ties to even, for every magnitude `n` in units `2^extra` finer than the least:
below the pattern `inf` of infinity no finite pattern is nearer, and of two equally near ones the even one is taken; the pattern of
infinity is reached exactly from `overflow` least units on. -/
def NarrowsToNearestEven (frac inf overflow : Nat) : Prop :=
  ∀ extra n : Nat,
    (Num.roundMag frac extra n < inf → ∀ q : Nat, q < inf →
      let near := distance n ((magOfPattern frac (Num.roundMag frac extra n) <<< extra : Nat) : Int)
      let other := distance n ((magOfPattern frac q <<< extra : Nat) : Int)
      near ≤ other ∧ (near = other → q ≠ Num.roundMag frac extra n → Num.roundMag frac extra n % 2 = 0))
    ∧ (inf ≤ Num.roundMag frac extra n ↔ overflow <<< extra ≤ n)

/-- `r` is the exact value `num / den` (in least units of a format) correctly rounded, with the sign bit `neg`: when it is finite no
finite value of the format is nearer, and when another is equally near its last bit is 0; it is an infinity exactly when the exact
magnitude is at least `overflow`. -/
def CorrectlyRounded {w : Nat} (value : BitVec w → Option Int) (infinity : Bool → BitVec w) (overflow : Nat) (r : BitVec w)
    (neg : Bool) (num : Int) (den : Nat) : Prop :=
  r.msb = neg
    ∧ (∀ x : Int, value r = some x → ∀ (c : BitVec w) (z : Int), value c = some z →
      distance num (x * den) ≤ distance num (z * den)
        ∧ (distance num (x * den) = distance num (z * den) → z ≠ x → r.getLsbD 0 = false))
    ∧ (value r = none ↔ overflow * den ≤ num.natAbs)
    ∧ (value r = none → r = infinity neg)

/-- Correctly rounded to binary64; the exact value is in units of 2^-1074. -/
def RoundedTo64 (r : Slot) (neg : Bool) (num : Int) (den : Nat) : Prop :=
  CorrectlyRounded exactValue Num.inf64 overflow64 r neg num den

/-- Correctly rounded to binary32; the exact value is in units of 2^-149. -/
def RoundedTo32 (r : Word32) (neg : Bool) (num : Int) (den : Nat) : Prop :=
  CorrectlyRounded exactValue32 Num.inf32 overflow32 r neg num den

/-- How many units of 2^-1074 make 1. -/
def unitsOfOne : Nat := 1 <<< 1074

end Sys2Proof.Machine
end

