-- ==== Sys2Proof/Certificates/Slice0/Obligations.lean ====
section
/-! DEFINITION. The statements for the provers. A NaN's payload, the result of an unmasked pop divide by zero and a conversion out
of range are draws (00_scope.md R16): a statement says "for some draw" where the rules say "some NaN" or `draw64()`. In every
statement about an access at `ea`, an access that crosses the top of the address space runs on at address 0: the model's choice (log
entry 3). -/

open Sys2Proof Sys2Proof.Machine

/-! ## Encoding -/

/-- Decoding the encoding of a well-formed instruction gives it back, every operand at every value (30_encoding.md R79). -/
def Obligations.DecodeOfEncodeIsTheInstruction : Prop :=
  ∀ i : Instr, i.WellFormed → decodeWord (encode i) = .ok i

/-- A word that decodes is the encoding of what it decodes to, which is well-formed: no bit of it is dropped. -/
def Obligations.EncodeOfDecodeIsTheWord : Prop :=
  ∀ (w : Word16) (i : Instr), decodeWord w = .ok i → encode i = w ∧ i.WellFormed

/-- The rows of the opcode map are pairwise disjoint, and a pair of an escape byte and `modrm` decodes to the undefined instruction
exactly when no row takes it (30_encoding.md R78, R79). -/
def Obligations.OpcodeMapIsUnambiguousAndTotal : Prop :=
  (∀ (w : Word16) (r r' : OpcodeRow), r ∈ opcodeRows → r' ∈ opcodeRows → rowMatches r w = true → rowMatches r' w = true → r = r')
    ∧ ∀ (g : BitVec 3) (modrm : Byte),
      decode (0b11011#5 ++ g) modrm = .ok (.undefined g modrm) ↔ isDefinedWord (pairWord g modrm) = false

/-- Words written out from the map decode to their instructions, one for each family. -/
def Obligations.SpecWordsDecode : Prop :=
  decodeWord 0b1101110011101001#16 = .ok (.fsubStiSt 1#3) ∧ decodeWord 0b1101100000111101#16 = .ok (.fdivrM32 ⟨0#2, 5#3⟩)
    ∧ decodeWord 0b1101111011011001#16 = .ok .fcompp ∧ decodeWord 0b1101111100101101#16 = .ok (.fildM64 ⟨0#2, 5#3⟩)
    ∧ decodeWord 0b1101100111101011#16 = .ok .fldpi ∧ decodeWord 0b1101100111110001#16 = .ok .fyl2x
    ∧ decodeWord 0b1101101111100011#16 = .ok .fninit ∧ decodeWord 0b1101100111001011#16 = .ok (.fxchSti 3#3)
    ∧ decodeWord 0b1101101000000101#16 = .ok (.undefined 2#3 0x05#8)

/-- A byte that is no escape byte decodes to nothing, and a block that is not halted refuses it by name (log entry 13). -/
def Obligations.NonEscapeByteIsRefused : Prop :=
  ∀ (p : Presented) (s : State) (rest : List HostInput), p.esc.extractLsb' 3 5 ≠ 0b11011#5 →
    decode p.esc p.modrm = .error (.notEscape p.esc)
      ∧ (s.halted = false → s.inputs = .instr p :: rest → step s = .refused (.notEscape p.esc))

/-! ## The register-stack controller -/

/-- `push(v)` writes `top` and the slot at the new top and nothing else. -/
def Obligations.PushWritesTheNewTop : Prop :=
  ∀ (s : State) (v : Slot), (s.push v).top = s.top - 1#3 ∧ (s.push v).slot (s.top - 1#3) = v ∧ OnlyPushed s (s.push v) []

/-- `pop()` returns the value on top, marks its tag Empty, moves `top` up by one, and writes nothing else, the slot included. -/
def Obligations.PopMarksTheOldTopEmpty : Prop :=
  ∀ s : State, s.pop.1 = s.slot s.top ∧ Popped s s.pop.2 [s.top] ∧ SlotsKeptExcept s s.pop.2 [] ∧ s.pop.2.cw = s.cw
    ∧ s.pop.2.sw = s.sw ∧ s.pop.2.ax = s.ax ∧ RestKept s s.pop.2 ∧ MemoryKept s s.pop.2 ∧ s.pop.2.outputs = s.outputs

/-- `ST[i]` is the slot whose number is `(top + i) mod 8`, and writing it writes that slot and nothing else. -/
def Obligations.IndexedAccessIsModuloEight : Prop :=
  ∀ (s : State) (i : StackIndex) (v : Slot),
    (s.phys i).toNat = (s.top.toNat + i.toNat) % 8 ∧ s.st i = s.slot (s.phys i) ∧ (s.setSt i v).slot (s.phys i) = v
      ∧ OnlyRegisterWritten s (s.setSt i v) i []

/-- The laws (a) to (g) of the stack: push and pop and read back, what shifts, eight pops and eight pushes. -/
def Obligations.StackLaws : Prop :=
  ∀ (s : State) (v : Slot),
    ((s.push v).st 0#3 = v ∧ (s.push v).top.toNat = (s.top.toNat + 7) % 8)
      ∧ (s.pop.1 = s.st 0#3 ∧ tagOf s.pop.2.tw s.top = 3#2 ∧ s.pop.2.top.toNat = (s.top.toNat + 1) % 8)
      ∧ (∀ i : StackIndex, i ≠ 7#3 → (s.push v).st (i + 1#3) = s.st i)
      ∧ (∀ i : StackIndex, s.pop.2.st i = s.st (i + 1#3))
      ∧ ((s.push v).pop.1 = v ∧ (s.push v).pop.2.top = s.top ∧ (s.push v).pop.2.slot (s.top - 1#3) = v
        ∧ tagOf (s.push v).pop.2.tw (s.top - 1#3) = 3#2)
      ∧ (let t := s.pop.2.pop.2.pop.2.pop.2.pop.2.pop.2.pop.2.pop.2
         t.top = s.top ∧ t.slots = s.slots ∧ t.tw = 0xFFFF#16)
      ∧ ∀ v1 v2 v3 v4 v5 v6 v7 : Slot,
        let t := (((((((s.push v).push v1).push v2).push v3).push v4).push v5).push v6).push v7
        t.top = s.top ∧ t.st 7#3 = v ∧ t.st 6#3 = v1 ∧ t.st 5#3 = v2 ∧ t.st 4#3 = v3 ∧ t.st 3#3 = v4 ∧ t.st 2#3 = v5
          ∧ t.st 1#3 = v6 ∧ t.st 0#3 = v7

/-! ## Arithmetic -/

/-- FADD, FMUL, FSUB, FSUBR m32 complete: `ST(0)` becomes the result on the widened operand, one 4-byte read is made, nothing
else changes. -/
def Obligations.ShortMemoryArithmetic : Prop :=
  ∀ (m : AddrMode) (s : State), ∀ p ∈ [(Instr.faddM32 m, fun d x n => Num.fadd d x n), (Instr.fmulM32 m, fun d x n => Num.fmul d x n),
      (Instr.fsubM32 m, fun d x n => Num.fsub d x n), (Instr.fsubrM32 m, fun d x n => Num.fsub x d n)],
    ∃ (t : State) (d e : Slot), exec p.1 s = .next t
      ∧ t.st 0#3 = p.2 (s.st 0#3) (Num.f32ToF64 ((s.busValue s.port.ea .w32).setWidth 32) d) e
      ∧ OnlyRegisterWritten s t 0#3 [.memRead s.port.ea .w32]

/-- FADD, FMUL, FSUB, FSUBR m64 complete: the operand is the eight bytes as they are. -/
def Obligations.LongMemoryArithmetic : Prop :=
  ∀ (m : AddrMode) (s : State), ∀ p ∈ [(Instr.faddM64 m, fun d x n => Num.fadd d x n), (Instr.fmulM64 m, fun d x n => Num.fmul d x n),
      (Instr.fsubM64 m, fun d x n => Num.fsub d x n), (Instr.fsubrM64 m, fun d x n => Num.fsub x d n)],
    ∃ (t : State) (e : Slot), exec p.1 s = .next t ∧ t.st 0#3 = p.2 (s.st 0#3) (s.busValue s.port.ea .w64) e
      ∧ OnlyRegisterWritten s t 0#3 [.memRead s.port.ea .w64]

/-- FADD, FMUL, FSUB, FSUBR ST, ST(i) complete: the result replaces `ST(0)`, no bus access. -/
def Obligations.TopRegisterArithmetic : Prop :=
  ∀ (i : StackIndex) (s : State), ∀ p ∈ [(Instr.faddStSti i, fun d x n => Num.fadd d x n), (Instr.fmulStSti i, fun d x n => Num.fmul d x n),
      (Instr.fsubStSti i, fun d x n => Num.fsub d x n), (Instr.fsubrStSti i, fun d x n => Num.fsub x d n)],
    ∃ (t : State) (e : Slot), exec p.1 s = .next t ∧ t.st 0#3 = p.2 (s.st 0#3) (s.st i) e ∧ OnlyRegisterWritten s t 0#3 []

/-- FADD, FMUL, FSUB, FSUBR ST(i), ST complete: the result replaces `ST(i)`. -/
def Obligations.IndexedRegisterArithmetic : Prop :=
  ∀ (i : StackIndex) (s : State), ∀ p ∈ [(Instr.faddStiSt i, fun d x n => Num.fadd d x n), (Instr.fmulStiSt i, fun d x n => Num.fmul d x n),
      (Instr.fsubStiSt i, fun d x n => Num.fsub d x n), (Instr.fsubrStiSt i, fun d x n => Num.fsub x d n)],
    ∃ (t : State) (e : Slot), exec p.1 s = .next t ∧ t.st i = p.2 (s.st i) (s.st 0#3) e ∧ OnlyRegisterWritten s t i []

/-- FADDP, FMULP, FSUBP, FSUBRP ST(i), ST complete: the result is written into the slot that was `ST(i)`, then one pop. -/
def Obligations.PopArithmetic : Prop :=
  ∀ (i : StackIndex) (s : State), ∀ p ∈ [(Instr.faddpStiSt i, fun d x n => Num.fadd d x n), (Instr.fmulpStiSt i, fun d x n => Num.fmul d x n),
      (Instr.fsubpStiSt i, fun d x n => Num.fsub d x n), (Instr.fsubrpStiSt i, fun d x n => Num.fsub x d n)],
    ∃ (t : State) (e : Slot), exec p.1 s = .next t ∧ t.slot (s.phys i) = p.2 (s.st i) (s.st 0#3) e
      ∧ RegisterWrittenAndPopped s t i

/-- FDIV and FDIVR m32 and m64: with a divisor that is no zero the quotient replaces `ST(0)`; with a zero divisor the instruction
ends in the class 2 fatal after its one read. -/
def Obligations.MemoryDivide : Prop :=
  ∀ (m : AddrMode) (s : State),
    let x32 := fun d => Num.f32ToF64 ((s.busValue s.port.ea .w32).setWidth 32) d
    let x64 := s.busValue s.port.ea .w64
    (∃ (t : State) (d e : Slot), exec (.fdivM32 m) s = .next t ∧
      (if Num.isZero (x32 d) then ZeroDivideFatal s t [.memRead s.port.ea .w32]
        else t.st 0#3 = Num.fdiv (s.st 0#3) (x32 d) e ∧ OnlyRegisterWritten s t 0#3 [.memRead s.port.ea .w32]))
    ∧ (∃ (t : State) (d e : Slot), exec (.fdivrM32 m) s = .next t ∧
      (if Num.isZero (s.st 0#3) then ZeroDivideFatal s t [.memRead s.port.ea .w32]
        else t.st 0#3 = Num.fdiv (x32 d) (s.st 0#3) e ∧ OnlyRegisterWritten s t 0#3 [.memRead s.port.ea .w32]))
    ∧ (∃ (t : State) (e : Slot), exec (.fdivM64 m) s = .next t ∧
      (if Num.isZero x64 then ZeroDivideFatal s t [.memRead s.port.ea .w64]
        else t.st 0#3 = Num.fdiv (s.st 0#3) x64 e ∧ OnlyRegisterWritten s t 0#3 [.memRead s.port.ea .w64]))
    ∧ ∃ (t : State) (e : Slot), exec (.fdivrM64 m) s = .next t ∧
      (if Num.isZero (s.st 0#3) then ZeroDivideFatal s t [.memRead s.port.ea .w64]
        else t.st 0#3 = Num.fdiv x64 (s.st 0#3) e ∧ OnlyRegisterWritten s t 0#3 [.memRead s.port.ea .w64])

/-- FDIV and FDIVR of two registers, in both directions: the quotient replaces the destination, or, with a zero divisor, the
class 2 fatal with no bus access. -/
def Obligations.RegisterDivide : Prop :=
  ∀ (i : StackIndex) (s : State),
    (∃ (t : State) (e : Slot), exec (.fdivStSti i) s = .next t ∧
      (if Num.isZero (s.st i) then ZeroDivideFatal s t []
        else t.st 0#3 = Num.fdiv (s.st 0#3) (s.st i) e ∧ OnlyRegisterWritten s t 0#3 []))
    ∧ (∃ (t : State) (e : Slot), exec (.fdivrStSti i) s = .next t ∧
      (if Num.isZero (s.st 0#3) then ZeroDivideFatal s t []
        else t.st 0#3 = Num.fdiv (s.st i) (s.st 0#3) e ∧ OnlyRegisterWritten s t 0#3 []))
    ∧ (∃ (t : State) (e : Slot), exec (.fdivStiSt i) s = .next t ∧
      (if Num.isZero (s.st 0#3) then ZeroDivideFatal s t []
        else t.st i = Num.fdiv (s.st i) (s.st 0#3) e ∧ OnlyRegisterWritten s t i []))
    ∧ ∃ (t : State) (e : Slot), exec (.fdivrStiSt i) s = .next t ∧
      (if Num.isZero (s.st i) then ZeroDivideFatal s t []
        else t.st i = Num.fdiv (s.st 0#3) (s.st i) e ∧ OnlyRegisterWritten s t i [])

/-- FDIVP and FDIVRP complete for every divisor: the quotient; or, with a zero divisor, the infinity whose sign is the exclusive-or
of the operands' signs when `CW[2]` is 1, and some draw when it is 0; then one pop. No status bit is written. -/
def Obligations.PopDivideNeverStops : Prop :=
  ∀ (i : StackIndex) (s : State),
    let quotient := fun (n dv e : Slot) =>
      if Num.isZero dv then (if s.cw.getLsbD 2 then Num.inf64 (n.msb ^^ dv.msb) else e) else Num.fdiv n dv e
    (∃ (t : State) (e : Slot), exec (.fdivpStiSt i) s = .next t ∧ t.slot (s.phys i) = quotient (s.st i) (s.st 0#3) e
      ∧ RegisterWrittenAndPopped s t i)
    ∧ ∃ (t : State) (e : Slot), exec (.fdivrpStiSt i) s = .next t ∧ t.slot (s.phys i) = quotient (s.st 0#3) (s.st i) e
      ∧ RegisterWrittenAndPopped s t i

/-- No instruction of the arithmetic family writes the status or the control word, whatever it does. -/
def Obligations.ArithmeticWritesNoFlag : Prop :=
  ∀ (i : Instr) (s t : State), isArithmetic i = true → exec i s = .next t → t.sw = s.sw ∧ t.cw = s.cw

/-! ## Comparison -/

/-- FCOM and FCOMP with a memory operand: one read, the condition codes, and for FCOMP one pop. -/
def Obligations.MemoryCompare : Prop :=
  ∀ (m : AddrMode) (s : State),
    let x32 := fun d => Num.f32ToF64 ((s.busValue s.port.ea .w32).setWidth 32) d
    let x64 := s.busValue s.port.ea .w64
    (∃ (t : State) (d : Slot), exec (.fcomM32 m) s = .next t ∧ StackStays s t
      ∧ OnlyCompared s t (s.st 0#3) (x32 d) [.memRead s.port.ea .w32])
    ∧ (∃ (t : State) (d : Slot), exec (.fcompM32 m) s = .next t ∧ Popped s t [s.top]
      ∧ OnlyCompared s t (s.st 0#3) (x32 d) [.memRead s.port.ea .w32])
    ∧ (∃ t : State, exec (.fcomM64 m) s = .next t ∧ StackStays s t
      ∧ OnlyCompared s t (s.st 0#3) x64 [.memRead s.port.ea .w64])
    ∧ ∃ t : State, exec (.fcompM64 m) s = .next t ∧ Popped s t [s.top]
      ∧ OnlyCompared s t (s.st 0#3) x64 [.memRead s.port.ea .w64]

/-- FCOM ST(i) and FCOMP ST(i). -/
def Obligations.RegisterCompare : Prop :=
  ∀ (i : StackIndex) (s : State),
    (∃ t : State, exec (.fcomSti i) s = .next t ∧ StackStays s t ∧ OnlyCompared s t (s.st 0#3) (s.st i) [])
    ∧ ∃ t : State, exec (.fcompSti i) s = .next t ∧ Popped s t [s.top] ∧ OnlyCompared s t (s.st 0#3) (s.st i) []

/-- FCOMPP: the condition codes of the ordered comparison, or, when an operand is a NaN, the three bits of FCOMPP_UNORDERED_CC;
then two pops. -/
def Obligations.ComparePopTwice : Prop :=
  ∀ s : State, ∃ t : State, exec .fcompp s = .next t ∧ Popped s t [s.top, s.top + 1#3]
    ∧ (if Num.isNaN (s.st 0#3) || Num.isNaN (s.st 1#3) then
        t.sw.getLsbD 14 = Config.fcomppUnorderedCC.c3 ∧ t.sw.getLsbD 10 = Config.fcomppUnorderedCC.c2
          ∧ t.sw.getLsbD 8 = Config.fcomppUnorderedCC.c0
      else t.sw.getLsbD 14 = Num.feq (s.st 0#3) (s.st 1#3) ∧ t.sw.getLsbD 8 = Num.flt (s.st 0#3) (s.st 1#3)
        ∧ t.sw.getLsbD 10 = false)
    ∧ t.sw &&& 0xBAFF#16 = s.sw &&& 0xBAFF#16 ∧ SlotsKeptExcept s t [] ∧ t.cw = s.cw ∧ t.ax = s.ax ∧ RestKept s t
    ∧ MemoryKept s t ∧ t.outputs = s.outputs

/-- The comparisons of NUM: a NaN is in no relation to anything; of two other values exactly one of less, equal, greater holds;
finite doubles are ordered as their exact values are, so the two zeros are equal; the infinities are the ends of the order. -/
def Obligations.ComparisonIsQuietAndTotal : Prop :=
  (∀ a b : Slot, Num.isNaN a = true ∨ Num.isNaN b = true → Num.feq a b = false ∧ Num.flt a b = false ∧ Num.fgt a b = false)
    ∧ (∀ a b : Slot, Num.isNaN a = false → Num.isNaN b = false →
      (Num.flt a b = true ∧ Num.feq a b = false ∧ Num.fgt a b = false) ∨ (Num.flt a b = false ∧ Num.feq a b = true ∧ Num.fgt a b = false)
        ∨ (Num.flt a b = false ∧ Num.feq a b = false ∧ Num.fgt a b = true))
    ∧ (∀ (a b : Slot) (u v : Int), exactValue a = some u → exactValue b = some v →
      (Num.flt a b = true ↔ u < v) ∧ (Num.feq a b = true ↔ u = v) ∧ (Num.fgt a b = true ↔ v < u))
    ∧ (∀ x : Slot, Num.isNaN x = false →
      (Num.flt x Num.pinf64 = true ↔ x ≠ Num.pinf64) ∧ (Num.flt Num.ninf64 x = true ↔ x ≠ Num.ninf64)
        ∧ (Num.fgt Num.pinf64 x = true ↔ x ≠ Num.pinf64) ∧ (Num.fgt x Num.ninf64 = true ↔ x ≠ Num.ninf64))
    ∧ ∀ x : Slot, Num.isZero x = true ↔ x = Num.pzero64 ∨ x = Num.nzero64

/-! ## Load, store, convert -/

/-- FLD m32, FLD m64 and FILD m64: one read, and the widened, copied or converted operand is pushed. -/
def Obligations.MemoryLoads : Prop :=
  ∀ (m : AddrMode) (s : State),
    (∃ (t : State) (d : Slot), exec (.fldM32 m) s = .next t
      ∧ t.st 0#3 = Num.f32ToF64 ((s.busValue s.port.ea .w32).setWidth 32) d ∧ OnlyPushed s t [.memRead s.port.ea .w32])
    ∧ (∃ t : State, exec (.fldM64 m) s = .next t ∧ t.st 0#3 = s.busValue s.port.ea .w64
      ∧ OnlyPushed s t [.memRead s.port.ea .w64])
    ∧ ∃ t : State, exec (.fildM64 m) s = .next t ∧ t.st 0#3 = Num.i64ToF64 (s.busValue s.port.ea .w64)
      ∧ OnlyPushed s t [.memRead s.port.ea .w64]

/-- FLD ST(i): the register of before the push, `i = 7` included, whose slot the push overwrites with its own value. -/
def Obligations.RegisterLoad : Prop :=
  ∀ (i : StackIndex) (s : State),
    ∃ t : State, exec (.fldSti i) s = .next t ∧ t.st 0#3 = s.st i ∧ (i ≠ 7#3 → t.st (i + 1#3) = s.st i) ∧ OnlyPushed s t []

/-- FST m32 (`D9 /2`) and FST m64 (`DD /2`): the single view, or the slot itself, is written at `ea`; the block is unchanged. -/
def Obligations.FloatStores : Prop :=
  ∀ (m : AddrMode) (s : State), s.mem.wf = true →
    (m.wf = true → EncodedInMemoryForm (.fstM32 m) 0xD9#8 2#3 ∧ EncodedInMemoryForm (.fstM64 m) 0xDD#8 2#3)
    ∧ (∃ (t : State) (d : Slot), exec (.fstM32 m) s = .next t ∧ StackStays s t
      ∧ OnlyStored s t s.port.ea .w32 ((Num.f64ToF32 (s.st 0#3) d).setWidth 64))
    ∧ ∃ t : State, exec (.fstM64 m) s = .next t ∧ StackStays s t ∧ OnlyStored s t s.port.ea .w64 (s.st 0#3)

/-- FSTP m32 (`D9 /3`) and FSTP m64 (`DD /3`): the same stores, then one pop. -/
def Obligations.FloatStoresAndPop : Prop :=
  ∀ (m : AddrMode) (s : State), s.mem.wf = true →
    (m.wf = true → EncodedInMemoryForm (.fstpM32 m) 0xD9#8 3#3 ∧ EncodedInMemoryForm (.fstpM64 m) 0xDD#8 3#3)
    ∧ (∃ (t : State) (d : Slot), exec (.fstpM32 m) s = .next t ∧ Popped s t [s.top]
      ∧ OnlyStored s t s.port.ea .w32 ((Num.f64ToF32 (s.st 0#3) d).setWidth 64))
    ∧ ∃ t : State, exec (.fstpM64 m) s = .next t ∧ Popped s t [s.top] ∧ OnlyStored s t s.port.ea .w64 (s.st 0#3)

/-- FISTP m64: the integer image of `ST(0)` rounded by `CW[11:10]` is written, then one pop; the slot is not rounded. -/
def Obligations.IntegerStore : Prop :=
  ∀ (m : AddrMode) (s : State), s.mem.wf = true →
    ∃ (t : State) (d e : Slot), exec (.fistpM64 m) s = .next t ∧ Popped s t [s.top]
      ∧ OnlyStored s t s.port.ea .w64 (Num.f64ToI64 (Sys2Proof.Machine.round (s.st 0#3) (s.cw.extractLsb' 10 2) d) e)

/-- FLD m64 followed by FSTP m64 at the same address leaves every byte of memory and `top` as they were, for every 64-bit pattern,
NaN payloads included. -/
def Obligations.DoubleLoadStoreIsTheIdentity : Prop :=
  ∀ (m m' : AddrMode) (s t u : State), s.mem.wf = true → exec (.fldM64 m) s = .next t → exec (.fstpM64 m') t = .next u →
    MemoryKept s u ∧ u.top = s.top

/-- A read of `n` bytes is little-endian: byte `k` of the value is the byte at `addr + k`, and nothing is above it. -/
def Obligations.BusReadIsLittleEndian : Prop :=
  ∀ (s : State) (a : Addr) (w : AccessWidth) (k : Nat),
    (s.busValue a w).extractLsb' (8 * k) 8 = if k < w.bytes then s.byteAt (a + BitVec.ofNat 32 k) else 0#8

/-- The conversions. A single that is no NaN widens to the same value, and narrowing that gives it back; a finite double narrows to the
correctly rounded single; a signed integer converts to the correctly rounded double; an integral double in range converts to its
integer, and every other double to the draw; infinities keep their sign and NaNs stay NaNs. -/
def Obligations.ConversionsAreExactOrCorrectlyRounded : Prop :=
  (∀ (w : Word32) (d e : Slot), Num.unpack32 w ≠ .nan → Num.f64ToF32 (Num.f32ToF64 w d) e = w)
    ∧ (∀ (w : Word32) (d : Slot) (v : Int), exactValue32 w = some v →
      exactValue (Num.f32ToF64 w d) = some (v * (1 <<< 925 : Nat)) ∧ (Num.f32ToF64 w d).msb = w.msb)
    ∧ (∀ (x d : Slot) (v : Int), exactValue x = some v → RoundedTo32 (Num.f64ToF32 x d) x.msb v (1 <<< 925))
    ∧ (∀ n : BitVec 64, RoundedTo64 (Num.i64ToF64 n) n.msb (n.toInt * unitsOfOne) 1)
    ∧ (∀ (n : BitVec 64) (x d : Slot), exactValue x = some (n.toInt * unitsOfOne) → Num.f64ToI64 x d = n)
    ∧ (∀ x d : Slot, (∀ n : BitVec 64, exactValue x ≠ some (n.toInt * unitsOfOne)) → Num.f64ToI64 x d = d)
    ∧ (∀ (neg : Bool) (d : Slot), Num.f32ToF64 (Num.inf32 neg) d = Num.inf64 neg ∧ Num.f64ToF32 (Num.inf64 neg) d = Num.inf32 neg)
    ∧ (∀ (w : Word32) (d : Slot), Num.unpack32 w = .nan → Num.isNaN (Num.f32ToF64 w d) = true)
    ∧ ∀ x d : Slot, Num.isNaN x = true → Num.unpack32 (Num.f64ToF32 x d) = .nan

/-! ## Constants and transcendentals -/

/-- The seven constant loads push their patterns, whatever the control word is, and change nothing else. -/
def Obligations.ConstantLoads : Prop :=
  ∀ s : State, ∀ p ∈ [(Instr.fld1, 0x3FF0000000000000#64), (Instr.fldl2t, 0x400A934F0979A371#64),
      (Instr.fldl2e, 0x3FF71547652B82FE#64), (Instr.fldpi, 0x400921FB54442D18#64), (Instr.fldlg2, 0x3FD34413509F79FF#64),
      (Instr.fldln2, 0x3FE62E42FEFA39EF#64), (Instr.fldz, 0x0000000000000000#64)],
    ∃ t : State, exec p.1 s = .next t ∧ t.st 0#3 = p.2 ∧ OnlyPushed s t []

/-- F2XM1 and FYL2X over their OPEN functions, each ending after its own effect. -/
def Obligations.TranscendentalsEndAfterTheirEffect : Prop :=
  ∀ s : State,
    (∃ t : State, exec .f2xm1 s = .next t ∧ t.st 0#3 = Config.fn2xm1 (s.st 0#3) ∧ OnlyRegisterWritten s t 0#3 [])
    ∧ ∃ (t : State) (e : Slot), exec .fyl2x s = .next t ∧ t.st 0#3 = Num.fmul (s.st 1#3) (Config.fnLog2 (s.st 0#3)) e
      ∧ RegisterWrittenAndPopped s t 1#3

/-! ## Environment and control -/

/-- FLDCW (`D9 /5`) loads all 16 bits of `CW` from memory and FNSTCW (`D9 /7`) stores all 16, verbatim (the spec's own decisions D9
for the bytes, D38 for the bits kept). -/
def Obligations.ControlWordLoadAndStore : Prop :=
  ∀ (m : AddrMode) (s : State),
    (m.wf = true → EncodedInMemoryForm (.fldcwM16 m) 0xD9#8 5#3 ∧ EncodedInMemoryForm (.fnstcwM16 m) 0xD9#8 7#3)
    ∧ (∃ t : State, exec (.fldcwM16 m) s = .next t ∧ t.cw = (s.busValue s.port.ea .w16).setWidth 16 ∧ t.sw = s.sw
      ∧ SlotsKeptExcept s t [] ∧ StackStays s t ∧ t.ax = s.ax ∧ RestKept s t ∧ MemoryKept s t
      ∧ t.outputs = s.outputs ++ [.memRead s.port.ea .w16])
    ∧ (s.mem.wf = true → ∃ t : State, exec (.fnstcwM16 m) s = .next t ∧ StackStays s t
      ∧ OnlyStored s t s.port.ea .w16 (s.cw.setWidth 64))

/-- FNSTENV: seven 2-byte writes, ascending, addresses modulo 2^32; the fourteen bytes hold the control word, the stored status
word, the tag word and the packed pointer fields; nothing else is written. -/
def Obligations.EnvironmentStore : Prop :=
  ∀ (m : AddrMode) (s : State), s.mem.wf = true →
    let ipn : Word16 := (s.lip.extractLsb' 16 4).setWidth 16
    let w8 : Word16 := (s.lop &&& 0x07FF#16) ||| (ipn <<< 11)
    let image : List (Nat × Word16) := [(0, s.cw), (2, s.sw), (4, s.tw), (6, s.lip.extractLsb' 0 16), (8, w8),
      (10, s.ldp.extractLsb' 0 16), (12, ipn)]
    ∃ t : State, exec (.fnstenvM14 m) s = .next t
      ∧ (∀ p ∈ image, t.byteAt (s.port.ea + BitVec.ofNat 32 p.1) = p.2.extractLsb' 0 8
        ∧ t.byteAt (s.port.ea + BitVec.ofNat 32 (p.1 + 1)) = p.2.extractLsb' 8 8)
      ∧ MemoryKeptOutside s t s.port.ea 14 ∧ SlotsKeptExcept s t [] ∧ StackStays s t ∧ t.cw = s.cw ∧ t.sw = s.sw ∧ t.ax = s.ax
      ∧ RestKept s t
      ∧ t.outputs = s.outputs ++ image.map fun p => .memWrite (s.port.ea + BitVec.ofNat 32 p.1) .w16 (p.2.setWidth 64)

/-- FNSTENV and a later FLDCW of the word just stored give back the control word of the store, whatever happened to `CW` between,
as long as memory was left alone. -/
def Obligations.EnvironmentControlWordRoundTrip : Prop :=
  ∀ (m m' : AddrMode) (s t u v : State), s.mem.wf = true → exec (.fnstenvM14 m) s = .next t → u.mem = t.mem →
    u.port.ea = s.port.ea → exec (.fldcwM16 m') u = .next v → v.cw = s.cw

/-- FNSTSW m16 and FNSTSW AX give the status word with bits 13:11 overwritten by `top`; the stored word is not written. -/
def Obligations.StatusWordStores : Prop :=
  ∀ (m : AddrMode) (s : State),
    let image : Word16 := (s.sw &&& 0xC7FF#16) ||| (s.top.setWidth 16 <<< 11)
    (s.mem.wf = true → ∃ t : State, exec (.fnstswM16 m) s = .next t ∧ StackStays s t
      ∧ OnlyStored s t s.port.ea .w16 (image.setWidth 64))
    ∧ ∃ t : State, exec .fnstswAx s = .next t ∧ t.ax = image ∧ SlotsKeptExcept s t [] ∧ StackStays s t ∧ t.cw = s.cw
      ∧ t.sw = s.sw ∧ RestKept s t ∧ MemoryKept s t ∧ t.outputs = s.outputs ++ [.accumulator image]

/-- FNINIT sets the word registers, clears the pointer registers, and leaves `top`, the slots and everything else. -/
def Obligations.InitialiseLeavesTheStack : Prop :=
  ∀ s : State, ∃ t : State, exec .fninit s = .next t ∧ t.cw = 0x037F#16 ∧ t.sw = 0x0000#16 ∧ t.tw = 0xFFFF#16 ∧ t.lip = 0#32
    ∧ t.lop = 0#16 ∧ t.ldp = 0#32 ∧ t.top = s.top ∧ SlotsKeptExcept s t [] ∧ t.ax = s.ax ∧ t.halted = s.halted
    ∧ t.report = s.report ∧ t.port = s.port ∧ t.inputs = s.inputs ∧ MemoryKept s t ∧ t.outputs = s.outputs

/-- FNCLEX (`DB E2`) clears bits 0 to 7 of the status word and leaves its other bits and everything else; FSETPM (`DB E4`) changes
nothing (the spec's own decisions D9 for the bytes, D46 for FSETPM). -/
def Obligations.ClearExceptionsAndSetpm : Prop :=
  encode .fnclex = 0xDBE2#16 ∧ encode .fsetpm = 0xDBE4#16 ∧ ∀ s : State,
    (∃ t : State, exec .fnclex s = .next t ∧ t.sw.extractLsb' 0 8 = 0#8 ∧ t.sw.extractLsb' 8 8 = s.sw.extractLsb' 8 8
      ∧ SlotsKeptExcept s t [] ∧ StackStays s t ∧ t.cw = s.cw ∧ t.ax = s.ax ∧ RestKept s t ∧ MemoryKept s t
      ∧ t.outputs = s.outputs)
    ∧ exec .fsetpm s = .next s

/-! ## Exchange and rounding -/

/-- FXCH ST(i) exchanges two slots, `i = 0` included, and moves no tag; executed again it restores the state. -/
def Obligations.ExchangeMovesNoTag : Prop :=
  ∀ (i : StackIndex) (s : State), ∃ t : State, exec (.fxchSti i) s = .next t ∧ t.st 0#3 = s.st i ∧ t.st i = s.st 0#3
    ∧ SlotsKeptExcept s t [s.phys 0#3, s.phys i] ∧ StackStays s t ∧ t.cw = s.cw ∧ t.sw = s.sw ∧ t.ax = s.ax ∧ RestKept s t
    ∧ MemoryKept s t ∧ t.outputs = s.outputs ∧ exec (.fxchSti i) t = .next s

/-- FRNDINT: `Round(ST[0], CW[11:10])` replaces `ST(0)`, and no status bit is written. -/
def Obligations.RoundToInteger : Prop :=
  ∀ s : State, ∃ (t : State) (d : Slot), exec .frndint s = .next t
    ∧ t.st 0#3 = (match (s.cw.extractLsb' 10 2).toNat with
      | 0 => roundNearest (s.st 0#3) d
      | 1 => Num.roundIntegral .down (s.st 0#3) d
      | 2 => Num.roundIntegral .up (s.st 0#3) d
      | _ => Num.roundIntegral .chop (s.st 0#3) d)
    ∧ OnlyRegisterWritten s t 0#3 []

/-- `Round` by value, for every double. Nearest (the mode after a reset): `y` is the rounded sum of the argument and 0.5; the result is
the floor of `y`, and a zero is `+0`, when that floor is a signed 64-bit integer, and the draw otherwise. The directed modes return an
infinity as it is and a NaN for a NaN; on a finite value the result is an integral double, below or equal and less than one below (down), above
or equal and less than one above (up), between zero and the value and less than one away (chop); its sign bit is the argument's
when the result is a zero. -/
def Obligations.RoundingModesByValue : Prop :=
  let unit : Int := unitsOfOne
  (∀ x d : Slot, Sys2Proof.Machine.round x 0#2 d = roundNearest x d ∧ Sys2Proof.Machine.round x 1#2 d = Num.roundIntegral .down x d
    ∧ Sys2Proof.Machine.round x 2#2 d = Num.roundIntegral .up x d ∧ Sys2Proof.Machine.round x 3#2 d = Num.roundIntegral .chop x d)
  ∧ (∀ (x d : Slot) (v : Int), exactValue (Num.fadd x Num.half64 d) = some v →
    let q := v / unit
    if -9223372036854775808 ≤ q ∧ q < 9223372036854775808 then
      exactValue (roundNearest x d) = some (q * unit) ∧ (roundNearest x d).msb = decide (q < 0)
    else roundNearest x d = d)
  ∧ (∀ x d : Slot, exactValue (Num.fadd x Num.half64 d) = none → roundNearest x d = d)
  ∧ (∀ (dir : Num.Direction) (neg : Bool) (d : Slot), Num.roundIntegral dir (Num.inf64 neg) d = Num.inf64 neg)
  ∧ (∀ (dir : Num.Direction) (x d : Slot), Num.isNaN x = true → Num.isNaN (Num.roundIntegral dir x d) = true)
  ∧ ∀ (x d : Slot) (v : Int), exactValue x = some v →
    (∃ q : Int, exactValue (Num.roundIntegral .down x d) = some (q * unit) ∧ q * unit ≤ v ∧ v < q * unit + unit
      ∧ (q = 0 → (Num.roundIntegral .down x d).msb = x.msb))
    ∧ (∃ q : Int, exactValue (Num.roundIntegral .up x d) = some (q * unit) ∧ v ≤ q * unit ∧ q * unit < v + unit
      ∧ (q = 0 → (Num.roundIntegral .up x d).msb = x.msb))
    ∧ ∃ q : Int, exactValue (Num.roundIntegral .chop x d) = some (q * unit) ∧ (q * unit).natAbs ≤ v.natAbs
      ∧ v.natAbs < (q * unit).natAbs + unit.natAbs ∧ 0 ≤ q * unit * v ∧ (q = 0 → (Num.roundIntegral .chop x d).msb = x.msb)

/-- The table of `Round` in its four modes, at the values where the modes part; `some NaN` of the table is `nan64 d`, which is a NaN
whatever the draw is and every NaN for some draw, and `nan32 d` is the same of the single format (log entry 6). -/
def Obligations.RoundingTable : Prop :=
  (∀ d : Slot, Num.isNaN (Num.nan64 d) = true ∧ Num.unpack32 (Num.nan32 d) = .nan)
  ∧ (∀ x : Slot, Num.isNaN x = true → Num.nan64 x = x)
  ∧ (∀ w : Word32, Num.unpack32 w = .nan → Num.nan32 (w.setWidth 64) = w)
  ∧ ∀ d : Slot,
    (∀ p ∈ [(0x4006000000000000#64, 0x4008000000000000#64, 0x4000000000000000#64, 0x4008000000000000#64, 0x4000000000000000#64),
      (0x4004000000000000#64, 0x4008000000000000#64, 0x4000000000000000#64, 0x4008000000000000#64, 0x4000000000000000#64),
      (0x4002000000000000#64, 0x4000000000000000#64, 0x4000000000000000#64, 0x4008000000000000#64, 0x4000000000000000#64),
      (0x3FF8000000000000#64, 0x4000000000000000#64, 0x3FF0000000000000#64, 0x4000000000000000#64, 0x3FF0000000000000#64),
      (0x3FE0000000000000#64, 0x3FF0000000000000#64, 0x0000000000000000#64, 0x3FF0000000000000#64, 0x0000000000000000#64),
      (0x3FD0000000000000#64, 0x0000000000000000#64, 0x0000000000000000#64, 0x3FF0000000000000#64, 0x0000000000000000#64),
      (0x0000000000000000#64, 0x0000000000000000#64, 0x0000000000000000#64, 0x0000000000000000#64, 0x0000000000000000#64),
      (0x8000000000000000#64, 0x0000000000000000#64, 0x8000000000000000#64, 0x8000000000000000#64, 0x8000000000000000#64),
      (0xBFD0000000000000#64, 0x0000000000000000#64, 0xBFF0000000000000#64, 0x8000000000000000#64, 0x8000000000000000#64),
      (0xBFE0000000000000#64, 0x0000000000000000#64, 0xBFF0000000000000#64, 0x8000000000000000#64, 0x8000000000000000#64),
      (0xBFF8000000000000#64, 0xBFF0000000000000#64, 0xC000000000000000#64, 0xBFF0000000000000#64, 0xBFF0000000000000#64),
      (0xBFFB333333333333#64, 0xC000000000000000#64, 0xC000000000000000#64, 0xBFF0000000000000#64, 0xBFF0000000000000#64),
      (0xC004000000000000#64, 0xC000000000000000#64, 0xC008000000000000#64, 0xC000000000000000#64, 0xC000000000000000#64),
      (0xC006000000000000#64, 0xC008000000000000#64, 0xC008000000000000#64, 0xC000000000000000#64, 0xC000000000000000#64),
      (0x4008000000000000#64, 0x4008000000000000#64, 0x4008000000000000#64, 0x4008000000000000#64, 0x4008000000000000#64),
      (0x4330000000000001#64, 0x4330000000000002#64, 0x4330000000000001#64, 0x4330000000000001#64, 0x4330000000000001#64),
      (0x7FF0000000000000#64, d, 0x7FF0000000000000#64, 0x7FF0000000000000#64, 0x7FF0000000000000#64),
      (0x7FF8000000000000#64, d, Num.nan64 d, Num.nan64 d, Num.nan64 d),
      (0x7E37E43C8800759C#64, d, 0x7E37E43C8800759C#64, 0x7E37E43C8800759C#64, 0x7E37E43C8800759C#64)],
      Sys2Proof.Machine.round p.1 0#2 d = p.2.1 ∧ Sys2Proof.Machine.round p.1 1#2 d = p.2.2.1
        ∧ Sys2Proof.Machine.round p.1 2#2 d = p.2.2.2.1 ∧ Sys2Proof.Machine.round p.1 3#2 d = p.2.2.2.2)

/-! ## Numbers -/

/-- The narrowing every numeric operation ends with, to double and to single: to nearest, ties to even, the pattern of infinity reached
exactly from half a unit beyond the largest finite value on. Packing puts the sign before the pattern, and the infinity of the sign where
the pattern of infinity is reached or passed. -/
def Obligations.NarrowingIsToNearestEven : Prop :=
  NarrowsToNearestEven 52 0x7FF0000000000000 overflow64 ∧ NarrowsToNearestEven 23 0x7F800000 overflow32
    ∧ ∀ (neg : Bool) (extra n : Nat),
      (if 0x7FF0000000000000 ≤ Num.roundMag 52 extra n then Num.pack64 neg extra n = Num.inf64 neg
        else (Num.pack64 neg extra n).msb = neg ∧ ((Num.pack64 neg extra n).extractLsb' 0 63).toNat = Num.roundMag 52 extra n)
      ∧ (if 0x7F800000 ≤ Num.roundMag 23 extra n then Num.pack32 neg extra n = Num.inf32 neg
        else (Num.pack32 neg extra n).msb = neg ∧ ((Num.pack32 neg extra n).extractLsb' 0 31).toNat = Num.roundMag 23 extra n)

/-- The sum and the difference of two finite doubles are correctly rounded, finite ties to even, overflow to the infinity of the sign; a
zero sum is `+0` unless both operands are `-0`, and a zero difference unless it is `-0` less `+0`. -/
def Obligations.SumAndDifferenceAreCorrectlyRounded : Prop :=
  ∀ (a b d : Slot) (u v : Int), exactValue a = some u → exactValue b = some v →
    RoundedTo64 (Num.fadd a b d) (if u + v = 0 then a.msb && b.msb else decide (u + v < 0)) (u + v) 1
      ∧ RoundedTo64 (Num.fsub a b d) (if u - v = 0 then a.msb && !b.msb else decide (u - v < 0)) (u - v) 1

/-- The product of two finite doubles, and their quotient when the divisor is no zero, are correctly rounded, finite ties to even,
overflow to infinity; the sign is the exclusive-or of the operands' signs, on a zero result too. -/
def Obligations.ProductAndQuotientAreCorrectlyRounded : Prop :=
  ∀ (a b d : Slot) (u v : Int), exactValue a = some u → exactValue b = some v →
    RoundedTo64 (Num.fmul a b d) (a.msb ^^ b.msb) (u * v) unitsOfOne
      ∧ (v ≠ 0 → RoundedTo64 (Num.fdiv a b d) (a.msb ^^ b.msb) (u * unitsOfOne * v.sign) v.natAbs)

/-- The operands that are not finite: a NaN gives a NaN; `inf - inf`, `0 x inf` and `inf / inf` give a NaN; every other operation on
an infinity gives the infinity, or for a finite value over an infinity the zero, of the sign (42_arithmetic.md R148). -/
def Obligations.NaNAndInfinityOperands : Prop :=
  (∀ a b d : Slot, Num.isNaN a = true ∨ Num.isNaN b = true →
    Num.isNaN (Num.fadd a b d) = true ∧ Num.isNaN (Num.fsub a b d) = true ∧ Num.isNaN (Num.fmul a b d) = true
      ∧ Num.isNaN (Num.fdiv a b d) = true)
  ∧ (∀ (p q : Bool) (d : Slot),
    (if p = q then Num.fadd (Num.inf64 p) (Num.inf64 q) d = Num.inf64 p else Num.isNaN (Num.fadd (Num.inf64 p) (Num.inf64 q) d) = true)
      ∧ (if p = q then Num.isNaN (Num.fsub (Num.inf64 p) (Num.inf64 q) d) = true else Num.fsub (Num.inf64 p) (Num.inf64 q) d = Num.inf64 p)
      ∧ Num.fmul (Num.inf64 p) (Num.inf64 q) d = Num.inf64 (p ^^ q) ∧ Num.isNaN (Num.fdiv (Num.inf64 p) (Num.inf64 q) d) = true)
  ∧ ∀ (p : Bool) (x d : Slot) (v : Int), exactValue x = some v →
    Num.fadd (Num.inf64 p) x d = Num.inf64 p ∧ Num.fadd x (Num.inf64 p) d = Num.inf64 p
      ∧ Num.fsub (Num.inf64 p) x d = Num.inf64 p ∧ Num.fsub x (Num.inf64 p) d = Num.inf64 (!p)
      ∧ (if v = 0 then Num.isNaN (Num.fmul (Num.inf64 p) x d) = true ∧ Num.isNaN (Num.fmul x (Num.inf64 p) d) = true
        else Num.fmul (Num.inf64 p) x d = Num.inf64 (p ^^ x.msb) ∧ Num.fmul x (Num.inf64 p) d = Num.inf64 (x.msb ^^ p))
      ∧ (v ≠ 0 → Num.fdiv (Num.inf64 p) x d = Num.inf64 (p ^^ x.msb))
      ∧ Num.fdiv x (Num.inf64 p) d = if x.msb ^^ p then Num.nzero64 else Num.pzero64

/-! ## Fatal conditions and reset -/

/-- An undefined encoding takes the class 1 fatal: the report names group, sub-opcode (by form) and pc, the latch is set, no bus
access is made, and the rest of the state is as it was. -/
def Obligations.UndefinedEncodingIsFatal : Prop :=
  ∀ (g : BitVec 3) (modrm : Byte) (s : State), ∃ t : State, exec (.undefined g modrm) s = .next t
    ∧ ArchitecturalStateKept s t ∧ t.halted = true
    ∧ t.report = some (.unimplementedInstruction g
      (if 0xC0#8 ≤ modrm then .reg (modrm.extractLsb' 0 6) else .mem (modrm.extractLsb' 3 3)) s.port.pc)
    ∧ ∃ r : Report, t.report = some r ∧ r.causeCode = 1 ∧ t.outputs = s.outputs ++ [.fatal r]

/-- A halted block takes a presented instruction without any effect, an undefined one and FNINIT included: only the host's list of
inputs gets shorter. For an escape byte outside 0xD8 to 0xDF, which the spec says never reaches the block (30_encoding.md R71), that is
the model's choice (log entry 13). -/
def Obligations.HaltedBlockIgnoresInstructions : Prop :=
  ∀ (p : Presented) (s : State) (rest : List HostInput), s.halted = true → s.inputs = .instr p :: rest →
    step s = .next { s with inputs := rest }

/-- Only a fatal sets the latch, and it is reported once: an instruction that a running block executes adds some traffic with no report
and no cycle count in it, and then either leaves the latch and the report as they were and emits one cycle count, or sets the latch with
a report, emits that report, and emits no cycle count. That the count comes after the instruction's other outputs is the model's choice
(log entry 9). -/
def Obligations.FatalIsReportedOnce : Prop :=
  ∀ (p : Presented) (s t : State) (rest : List HostInput), s.halted = false → s.inputs = .instr p :: rest → step s = .next t →
    ∃ traffic : List PortEvent, (∀ r : Report, PortEvent.fatal r ∉ traffic) ∧ (∀ n : Nat, PortEvent.cycles n ∉ traffic)
      ∧ ((t.halted = false ∧ t.report = s.report ∧ t.outputs = s.outputs ++ traffic ++ [.cycles (Config.cycles p.esc p.modrm)])
        ∨ (t.halted = true ∧ ∃ r : Report, t.report = some r ∧ t.outputs = s.outputs ++ traffic ++ [.fatal r]))

/-- `RESET` sets the word registers, clears the pointer registers, the latch and the report, and writes neither `top` nor the slots,
makes no bus access and reports no cycle count. On a block that is not halted and holds no report, FNINIT leaves the same state. -/
def Obligations.ResetInputAndFninit : Prop :=
  (∀ (s : State) (rest : List HostInput), s.inputs = .reset :: rest →
    ∃ t : State, step s = .next t ∧ t.cw = 0x037F#16 ∧ t.sw = 0x0000#16 ∧ t.tw = 0xFFFF#16 ∧ t.lip = 0#32 ∧ t.lop = 0#16
      ∧ t.ldp = 0#32 ∧ t.halted = false ∧ t.report = none ∧ t.top = s.top ∧ t.slots = s.slots ∧ t.mem = s.mem ∧ t.ax = s.ax
      ∧ t.outputs = s.outputs ∧ t.inputs = rest)
    ∧ ∀ s : State, s.halted = false → s.report = none → exec .fninit s = takeInput .reset s

/-- The values of the state after reset that the spec gives; those of `top` and the slots are the model's choice (log entry 2) and
are not stated. A power-on state holds its launch parameters and is not halted, for every value of each parameter; a `RESET` of it sets
the word and pointer registers, and `top` and the slots keep their power-on values. -/
def Obligations.PowerOnAndResetValues : Prop :=
  (State.reset.cw = 0x037F#16 ∧ State.reset.sw = 0x0000#16 ∧ State.reset.tw = 0xFFFF#16 ∧ State.reset.lip = 0#32
    ∧ State.reset.lop = 0#16 ∧ State.reset.ldp = 0#32 ∧ State.reset.halted = false ∧ State.reset.report = none)
  ∧ ∀ (p : LaunchParameters) (rest : List HostInput),
    let s := State.powerOn p
    s.halted = false ∧ s.report = none ∧ s.top = p.top ∧ s.slots = p.slots ∧ s.tw = p.tw ∧ s.cw = p.cw ∧ s.sw = p.sw
      ∧ s.lip = p.lip ∧ s.lop = p.lop ∧ s.ldp = p.ldp
      ∧ ∃ t : State, step { s with inputs := .reset :: rest } = .next t ∧ t.cw = 0x037F#16 ∧ t.sw = 0x0000#16 ∧ t.tw = 0xFFFF#16
        ∧ t.lip = 0#32 ∧ t.lop = 0#16 ∧ t.ldp = 0#32 ∧ t.halted = false ∧ t.report = none ∧ t.top = p.top ∧ t.slots = p.slots

/-! ## The step -/

/-- A step of a running block with an instruction presented executes the instruction its two bytes decode to, on the state with the
tuple sampled and the input taken, and appends the cycle count when the instruction completed. That the count comes after the
instruction's other outputs is the model's choice (log entry 9), as is the form of the inputs (log entry 11). -/
def Obligations.StepRunsTheDecodedInstruction : Prop :=
  ∀ (p : Presented) (s : State) (rest : List HostInput) (i : Instr), s.halted = false → s.inputs = .instr p :: rest →
    decode p.esc p.modrm = .ok i →
    step s = mapNext (fun t => if t.halted then t else { t with outputs := t.outputs ++ [.cycles (Config.cycles t.port.esc t.port.modrm)] })
      (exec i { s with inputs := rest, port := p })

/-- Every instruction answers a next state in every state: nothing refuses and nothing faults. -/
def Obligations.EveryInstructionCompletes : Prop :=
  ∀ (i : Instr) (s : State), ∃ t : State, exec i s = .next t

/-! ## What holds of every step -/

/-- The invariant of a session is kept by every step. -/
def Obligations.StepKeepsTheSessionInvariant : Prop :=
  ∀ s t : State, SessionInvariant s → step s = .next t → SessionInvariant t

/-- The state after reset meets the invariant. -/
def Obligations.ResetMeetsTheSessionInvariant : Prop := SessionInvariant State.reset

/-- Tag bits only turn from 0 to 1, in every step from every state. -/
def Obligations.TagBitsOnlyRise : Prop :=
  ∀ s t : State, step s = .next t → s.tw &&& t.tw = s.tw

/-- No step sets a bit of the status word but C3, C2 and C0, from any state. -/
def Obligations.NoFlagBitEverRises : Prop :=
  ∀ (s t : State) (k : Nat), step s = .next t → k ≠ 8 → k ≠ 10 → k ≠ 14 → t.sw.getLsbD k = true → s.sw.getLsbD k = true

/-- `top` moves by pushes and pops only: down one for a load or a constant, up one for a P form, up two for FCOMPP, and not at all
for every other instruction or when a fatal ends it. -/
def Obligations.TopMovesByPushAndPopOnly : Prop :=
  ∀ (i : Instr) (s t : State), exec i s = .next t → t.top = s.top + topShift i

/-- No instruction's behaviour depends on a tag: on a state with another tag word, everything but the tag word comes out the same.
FNSTENV, which stores the tag word, is left out. -/
def Obligations.TagsDecideNothing : Prop :=
  ∀ (i : Instr) (s : State) (w : Word16), storesTagWord i = false →
    mapNext (fun t => { t with tw := 0#16 }) (exec i { s with tw := w }) = mapNext (fun t => { t with tw := 0#16 }) (exec i s)

/-- Which instructions depend on which bits of the control word. Those that store it apart, an instruction other than the two pop
divides, FRNDINT and FISTP does not depend on it at all; the pop divides depend on bit 2 only, FRNDINT and FISTP on bits 11:10 only. -/
def Obligations.ControlWordReaders : Prop :=
  ∀ (i : Instr) (s : State) (w : Word16), storesControlWord i = false →
    (readsZeroDivideMask i = true → w.getLsbD 2 = s.cw.getLsbD 2) →
    (readsRoundingControl i = true → w.extractLsb' 10 2 = s.cw.extractLsb' 10 2) →
    mapNext (fun t => { t with cw := 0#16 }) (exec i { s with cw := w }) = mapNext (fun t => { t with cw := 0#16 }) (exec i s)
end

