-- ==== Sys2Proof/Laws/Memory.lean ====
section
/-! SUPPORT. The laws of the byte memory: a read after a write, every other address left alone, and the canonical form kept by
every memory operation. -/

namespace Sys2Proof.Machine

theorem Memory.readByte_consByte_of_ne {a x : Nat} (b : Byte) (rest : Memory) (h : x ≠ a) :
    Memory.readByte (Memory.consByte a b rest) x = Memory.readByte rest x := by
  unfold Memory.consByte
  split
  · rfl
  · simp [Memory.readByte, Ne.symm h]

/-- A write leaves every other address alone, in any memory. -/
theorem Memory.readByte_writeByte_of_ne {a x : Nat} (b : Byte) (h : x ≠ a) (m : Memory) :
    (m.writeByte a b).readByte x = m.readByte x := by
  induction m with
  | nil => exact Memory.readByte_consByte_of_ne b [] h
  | cons c rest ih =>
    obtain ⟨k, c⟩ := c
    simp only [Memory.writeByte]
    split
    · exact Memory.readByte_consByte_of_ne b _ h
    · split
      · rename_i hk
        rw [Memory.readByte_consByte_of_ne b _ h, ← hk]
        simp [Memory.readByte, Ne.symm h]
      · simp only [Memory.readByte, ih]

theorem Memory.wfFrom_mono {lo lo' : Nat} (h : lo' ≤ lo) : ∀ {m : Memory}, Memory.wfFrom lo m = true → Memory.wfFrom lo' m = true
  | [], _ => rfl
  | (k, b) :: rest, hm => by
    simp only [Memory.wfFrom, Bool.and_eq_true, decide_eq_true_eq] at hm ⊢
    exact ⟨⟨⟨h.trans hm.1.1.1, hm.1.1.2⟩, hm.1.2⟩, hm.2⟩

theorem Memory.readByte_of_lt {x lo : Nat} (h : x < lo) : ∀ {m : Memory}, Memory.wfFrom lo m = true → m.readByte x = unlistedByte
  | [], _ => rfl
  | (k, b) :: rest, hm => by
    simp only [Memory.wfFrom, Bool.and_eq_true, decide_eq_true_eq] at hm
    have hk : k ≠ x := by omega
    simp only [Memory.readByte, hk, if_false]
    exact Memory.readByte_of_lt (h := by omega) hm.2

theorem Memory.wfFrom_consByte {lo a : Nat} {b : Byte} {rest : Memory} (hlo : lo ≤ a) (ha : a < 4294967296)
    (hr : Memory.wfFrom (a + 1) rest = true) : Memory.wfFrom lo (Memory.consByte a b rest) = true := by
  unfold Memory.consByte
  split
  · exact Memory.wfFrom_mono (by omega) hr
  · rename_i hb
    simp [Memory.wfFrom, hlo, ha, hb, hr]

theorem Memory.readByte_consByte_self {a : Nat} {b : Byte} {rest : Memory} (hr : Memory.wfFrom (a + 1) rest = true) :
    Memory.readByte (Memory.consByte a b rest) a = b := by
  unfold Memory.consByte
  split
  · rename_i hb
    rw [Memory.readByte_of_lt (Nat.lt_succ_self a) hr, hb]
  · simp [Memory.readByte]

/-- A write keeps the canonical form. -/
theorem Memory.wfFrom_writeByte {a : Nat} (b : Byte) (ha : a < 4294967296) :
    ∀ {lo : Nat} {m : Memory}, lo ≤ a → Memory.wfFrom lo m = true → Memory.wfFrom lo (m.writeByte a b) = true
  | _, [], hlo, _ => Memory.wfFrom_consByte hlo ha rfl
  | _, (k, c) :: rest, hlo, hm => by
    have hm' := hm
    simp only [Memory.wfFrom, Bool.and_eq_true, decide_eq_true_eq] at hm'
    simp only [Memory.writeByte]
    split
    · rename_i hlt
      refine Memory.wfFrom_consByte hlo ha ?_
      simp only [Memory.wfFrom, Bool.and_eq_true, decide_eq_true_eq]
      exact ⟨⟨⟨hlt, hm'.1.1.2⟩, hm'.1.2⟩, hm'.2⟩
    · split
      · rename_i hk
        subst hk
        exact Memory.wfFrom_consByte hlo ha hm'.2
      · simp only [Memory.wfFrom, Bool.and_eq_true, decide_eq_true_eq]
        exact ⟨hm'.1, Memory.wfFrom_writeByte b ha (by omega) hm'.2⟩

/-- A read after a write to the same address gives the byte written. -/
theorem Memory.readByte_writeByte_self {a : Nat} (b : Byte) :
    ∀ {lo : Nat} {m : Memory}, Memory.wfFrom lo m = true → (m.writeByte a b).readByte a = b
  | _, [], _ => Memory.readByte_consByte_self rfl
  | _, (k, c) :: rest, hm => by
    have hm' := hm
    simp only [Memory.wfFrom, Bool.and_eq_true, decide_eq_true_eq] at hm'
    simp only [Memory.writeByte]
    split
    · rename_i hlt
      refine Memory.readByte_consByte_self ?_
      simp only [Memory.wfFrom, Bool.and_eq_true, decide_eq_true_eq]
      exact ⟨⟨⟨hlt, hm'.1.1.2⟩, hm'.1.2⟩, hm'.2⟩
    · split
      · rename_i hk
        subst hk
        exact Memory.readByte_consByte_self hm'.2
      · rename_i hk
        simp only [Memory.readByte, Ne.symm hk, if_false]
        exact Memory.readByte_writeByte_self b hm'.2

/-- Every store keeps the canonical form. -/
theorem Memory.wf_writeBytes : ∀ (n : Nat) (m : Memory) (a : Addr) (v : Nat), m.wf = true → (m.writeBytes a n v).wf = true
  | 0, _, _, _, h => h
  | n + 1, _, a, v, h =>
    Memory.wf_writeBytes n _ _ _ (Memory.wfFrom_writeByte (BitVec.ofNat 8 v) a.isLt (Nat.zero_le _) h)

/-- A store leaves every byte outside its `n` bytes alone; `(x - a).toNat` is how far `x` lies after `a`, modulo 2^32. -/
theorem Memory.readByte_writeBytes_of_outside : ∀ (n : Nat) (m : Memory) (a x : Addr) (v : Nat),
    n ≤ (x - a).toNat → (m.writeBytes a n v).readByte x.toNat = m.readByte x.toNat
  | 0, _, _, _, _, _ => rfl
  | n + 1, m, a, x, v, h => by
    have hne : x.toNat ≠ a.toNat := by
      intro e
      have : x = a := BitVec.eq_of_toNat_eq e
      subst this
      simp at h
    have hout : n ≤ (x - (a + 1#32)).toNat := by bv_omega
    rw [Memory.writeBytes, Memory.readByte_writeBytes_of_outside n _ _ _ _ hout,
      Memory.readByte_writeByte_of_ne _ hne]

/-- The bytes a store leaves at its own addresses: byte `k` is byte `k` of the value (20_memory.md R51). -/
theorem Memory.readByte_writeBytes_of_inside : ∀ (n : Nat) (m : Memory) (a : Addr) (v k : Nat), n ≤ 4294967296 → k < n →
    m.wf = true → (m.writeBytes a n v).readByte (a + BitVec.ofNat 32 k).toNat = BitVec.ofNat 8 (v / 256 ^ k)
  | n + 1, m, a, v, k, hn, hk, h => by
    have hw := Memory.wfFrom_writeByte (BitVec.ofNat 8 v) a.isLt (Nat.zero_le _) h
    cases k with
    | zero =>
      have hout : n ≤ ((a + BitVec.ofNat 32 0) - (a + 1#32)).toNat := by bv_omega
      rw [Memory.writeBytes, Memory.readByte_writeBytes_of_outside n _ _ _ _ hout]
      simpa using Memory.readByte_writeByte_self (BitVec.ofNat 8 v) h
    | succ k =>
      have e : a + BitVec.ofNat 32 (k + 1) = a + 1#32 + BitVec.ofNat 32 k := by
        rw [BitVec.add_assoc, show (1#32 : BitVec 32) = BitVec.ofNat 32 1 from rfl, ← BitVec.ofNat_add, Nat.add_comm 1 k]
      rw [Memory.writeBytes, e, Memory.readByte_writeBytes_of_inside n _ _ _ k (by omega) (by omega) hw,
        Nat.div_div_eq_div_mul, Nat.pow_succ, Nat.mul_comm 256]

end Sys2Proof.Machine
end

