-- ==== Sys2Proof/Laws/State.lean ====
section
/-! SUPPORT. One lemma per field of `State` per update, true by definition, so that no proof unfolds a record update. -/

namespace Sys2Proof.Machine

/-! ### `State.emit` -/

@[simp] theorem State.emit_slots (s : State) (e : PortEvent) : (s.emit e).slots = s.slots := rfl
@[simp] theorem State.emit_top (s : State) (e : PortEvent) : (s.emit e).top = s.top := rfl
@[simp] theorem State.emit_tw (s : State) (e : PortEvent) : (s.emit e).tw = s.tw := rfl
@[simp] theorem State.emit_cw (s : State) (e : PortEvent) : (s.emit e).cw = s.cw := rfl
@[simp] theorem State.emit_sw (s : State) (e : PortEvent) : (s.emit e).sw = s.sw := rfl
@[simp] theorem State.emit_lip (s : State) (e : PortEvent) : (s.emit e).lip = s.lip := rfl
@[simp] theorem State.emit_lop (s : State) (e : PortEvent) : (s.emit e).lop = s.lop := rfl
@[simp] theorem State.emit_ldp (s : State) (e : PortEvent) : (s.emit e).ldp = s.ldp := rfl
@[simp] theorem State.emit_halted (s : State) (e : PortEvent) : (s.emit e).halted = s.halted := rfl
@[simp] theorem State.emit_report (s : State) (e : PortEvent) : (s.emit e).report = s.report := rfl
@[simp] theorem State.emit_mem (s : State) (e : PortEvent) : (s.emit e).mem = s.mem := rfl
@[simp] theorem State.emit_ax (s : State) (e : PortEvent) : (s.emit e).ax = s.ax := rfl
@[simp] theorem State.emit_port (s : State) (e : PortEvent) : (s.emit e).port = s.port := rfl
@[simp] theorem State.emit_inputs (s : State) (e : PortEvent) : (s.emit e).inputs = s.inputs := rfl
@[simp] theorem State.emit_outputs (s : State) (e : PortEvent) : (s.emit e).outputs = s.outputs ++ [e] := rfl
@[simp] theorem State.emit_draws (s : State) (e : PortEvent) : (s.emit e).draws = s.draws := rfl

/-! ### `State.busRead` -/

@[simp] theorem State.busRead_slots (s : State) (a : Addr) (w : AccessWidth) : (s.busRead a w).slots = s.slots := rfl
@[simp] theorem State.busRead_top (s : State) (a : Addr) (w : AccessWidth) : (s.busRead a w).top = s.top := rfl
@[simp] theorem State.busRead_tw (s : State) (a : Addr) (w : AccessWidth) : (s.busRead a w).tw = s.tw := rfl
@[simp] theorem State.busRead_cw (s : State) (a : Addr) (w : AccessWidth) : (s.busRead a w).cw = s.cw := rfl
@[simp] theorem State.busRead_sw (s : State) (a : Addr) (w : AccessWidth) : (s.busRead a w).sw = s.sw := rfl
@[simp] theorem State.busRead_lip (s : State) (a : Addr) (w : AccessWidth) : (s.busRead a w).lip = s.lip := rfl
@[simp] theorem State.busRead_lop (s : State) (a : Addr) (w : AccessWidth) : (s.busRead a w).lop = s.lop := rfl
@[simp] theorem State.busRead_ldp (s : State) (a : Addr) (w : AccessWidth) : (s.busRead a w).ldp = s.ldp := rfl
@[simp] theorem State.busRead_halted (s : State) (a : Addr) (w : AccessWidth) : (s.busRead a w).halted = s.halted := rfl
@[simp] theorem State.busRead_report (s : State) (a : Addr) (w : AccessWidth) : (s.busRead a w).report = s.report := rfl
@[simp] theorem State.busRead_mem (s : State) (a : Addr) (w : AccessWidth) : (s.busRead a w).mem = s.mem := rfl
@[simp] theorem State.busRead_ax (s : State) (a : Addr) (w : AccessWidth) : (s.busRead a w).ax = s.ax := rfl
@[simp] theorem State.busRead_port (s : State) (a : Addr) (w : AccessWidth) : (s.busRead a w).port = s.port := rfl
@[simp] theorem State.busRead_inputs (s : State) (a : Addr) (w : AccessWidth) : (s.busRead a w).inputs = s.inputs := rfl
@[simp] theorem State.busRead_outputs (s : State) (a : Addr) (w : AccessWidth) : (s.busRead a w).outputs = s.outputs ++ [.memRead a w] := rfl
@[simp] theorem State.busRead_draws (s : State) (a : Addr) (w : AccessWidth) : (s.busRead a w).draws = s.draws := rfl

/-! ### `State.busWrite` -/

@[simp] theorem State.busWrite_slots (s : State) (a : Addr) (w : AccessWidth) (v : BitVec 64) : (s.busWrite a w v).slots = s.slots := rfl
@[simp] theorem State.busWrite_top (s : State) (a : Addr) (w : AccessWidth) (v : BitVec 64) : (s.busWrite a w v).top = s.top := rfl
@[simp] theorem State.busWrite_tw (s : State) (a : Addr) (w : AccessWidth) (v : BitVec 64) : (s.busWrite a w v).tw = s.tw := rfl
@[simp] theorem State.busWrite_cw (s : State) (a : Addr) (w : AccessWidth) (v : BitVec 64) : (s.busWrite a w v).cw = s.cw := rfl
@[simp] theorem State.busWrite_sw (s : State) (a : Addr) (w : AccessWidth) (v : BitVec 64) : (s.busWrite a w v).sw = s.sw := rfl
@[simp] theorem State.busWrite_lip (s : State) (a : Addr) (w : AccessWidth) (v : BitVec 64) : (s.busWrite a w v).lip = s.lip := rfl
@[simp] theorem State.busWrite_lop (s : State) (a : Addr) (w : AccessWidth) (v : BitVec 64) : (s.busWrite a w v).lop = s.lop := rfl
@[simp] theorem State.busWrite_ldp (s : State) (a : Addr) (w : AccessWidth) (v : BitVec 64) : (s.busWrite a w v).ldp = s.ldp := rfl
@[simp] theorem State.busWrite_halted (s : State) (a : Addr) (w : AccessWidth) (v : BitVec 64) : (s.busWrite a w v).halted = s.halted := rfl
@[simp] theorem State.busWrite_report (s : State) (a : Addr) (w : AccessWidth) (v : BitVec 64) : (s.busWrite a w v).report = s.report := rfl
@[simp] theorem State.busWrite_mem (s : State) (a : Addr) (w : AccessWidth) (v : BitVec 64) : (s.busWrite a w v).mem = s.mem.writeBytes a w.bytes v.toNat := rfl
@[simp] theorem State.busWrite_ax (s : State) (a : Addr) (w : AccessWidth) (v : BitVec 64) : (s.busWrite a w v).ax = s.ax := rfl
@[simp] theorem State.busWrite_port (s : State) (a : Addr) (w : AccessWidth) (v : BitVec 64) : (s.busWrite a w v).port = s.port := rfl
@[simp] theorem State.busWrite_inputs (s : State) (a : Addr) (w : AccessWidth) (v : BitVec 64) : (s.busWrite a w v).inputs = s.inputs := rfl
@[simp] theorem State.busWrite_outputs (s : State) (a : Addr) (w : AccessWidth) (v : BitVec 64) : (s.busWrite a w v).outputs = s.outputs ++ [.memWrite a w v] := rfl
@[simp] theorem State.busWrite_draws (s : State) (a : Addr) (w : AccessWidth) (v : BitVec 64) : (s.busWrite a w v).draws = s.draws := rfl

/-! ### `State.writeAx` -/

@[simp] theorem State.writeAx_slots (s : State) (v : Word16) : (s.writeAx v).slots = s.slots := rfl
@[simp] theorem State.writeAx_top (s : State) (v : Word16) : (s.writeAx v).top = s.top := rfl
@[simp] theorem State.writeAx_tw (s : State) (v : Word16) : (s.writeAx v).tw = s.tw := rfl
@[simp] theorem State.writeAx_cw (s : State) (v : Word16) : (s.writeAx v).cw = s.cw := rfl
@[simp] theorem State.writeAx_sw (s : State) (v : Word16) : (s.writeAx v).sw = s.sw := rfl
@[simp] theorem State.writeAx_lip (s : State) (v : Word16) : (s.writeAx v).lip = s.lip := rfl
@[simp] theorem State.writeAx_lop (s : State) (v : Word16) : (s.writeAx v).lop = s.lop := rfl
@[simp] theorem State.writeAx_ldp (s : State) (v : Word16) : (s.writeAx v).ldp = s.ldp := rfl
@[simp] theorem State.writeAx_halted (s : State) (v : Word16) : (s.writeAx v).halted = s.halted := rfl
@[simp] theorem State.writeAx_report (s : State) (v : Word16) : (s.writeAx v).report = s.report := rfl
@[simp] theorem State.writeAx_mem (s : State) (v : Word16) : (s.writeAx v).mem = s.mem := rfl
@[simp] theorem State.writeAx_ax (s : State) (v : Word16) : (s.writeAx v).ax = v := rfl
@[simp] theorem State.writeAx_port (s : State) (v : Word16) : (s.writeAx v).port = s.port := rfl
@[simp] theorem State.writeAx_inputs (s : State) (v : Word16) : (s.writeAx v).inputs = s.inputs := rfl
@[simp] theorem State.writeAx_outputs (s : State) (v : Word16) : (s.writeAx v).outputs = s.outputs ++ [.accumulator v] := rfl
@[simp] theorem State.writeAx_draws (s : State) (v : Word16) : (s.writeAx v).draws = s.draws := rfl

/-! ### `State.afterDraw` -/

@[simp] theorem State.afterDraw_slots (s : State) : (s.afterDraw).slots = s.slots := rfl
@[simp] theorem State.afterDraw_top (s : State) : (s.afterDraw).top = s.top := rfl
@[simp] theorem State.afterDraw_tw (s : State) : (s.afterDraw).tw = s.tw := rfl
@[simp] theorem State.afterDraw_cw (s : State) : (s.afterDraw).cw = s.cw := rfl
@[simp] theorem State.afterDraw_sw (s : State) : (s.afterDraw).sw = s.sw := rfl
@[simp] theorem State.afterDraw_lip (s : State) : (s.afterDraw).lip = s.lip := rfl
@[simp] theorem State.afterDraw_lop (s : State) : (s.afterDraw).lop = s.lop := rfl
@[simp] theorem State.afterDraw_ldp (s : State) : (s.afterDraw).ldp = s.ldp := rfl
@[simp] theorem State.afterDraw_halted (s : State) : (s.afterDraw).halted = s.halted := rfl
@[simp] theorem State.afterDraw_report (s : State) : (s.afterDraw).report = s.report := rfl
@[simp] theorem State.afterDraw_mem (s : State) : (s.afterDraw).mem = s.mem := rfl
@[simp] theorem State.afterDraw_ax (s : State) : (s.afterDraw).ax = s.ax := rfl
@[simp] theorem State.afterDraw_port (s : State) : (s.afterDraw).port = s.port := rfl
@[simp] theorem State.afterDraw_inputs (s : State) : (s.afterDraw).inputs = s.inputs := rfl
@[simp] theorem State.afterDraw_outputs (s : State) : (s.afterDraw).outputs = s.outputs := rfl
@[simp] theorem State.afterDraw_draws (s : State) : (s.afterDraw).draws = s.draws + 1 := rfl

/-! ### `State.setSlot` -/

@[simp] theorem State.setSlot_slots (s : State) (p : StackIndex) (v : Slot) : (s.setSlot p v).slots = s.slots.set p.toNat v p.isLt := rfl
@[simp] theorem State.setSlot_top (s : State) (p : StackIndex) (v : Slot) : (s.setSlot p v).top = s.top := rfl
@[simp] theorem State.setSlot_tw (s : State) (p : StackIndex) (v : Slot) : (s.setSlot p v).tw = s.tw := rfl
@[simp] theorem State.setSlot_cw (s : State) (p : StackIndex) (v : Slot) : (s.setSlot p v).cw = s.cw := rfl
@[simp] theorem State.setSlot_sw (s : State) (p : StackIndex) (v : Slot) : (s.setSlot p v).sw = s.sw := rfl
@[simp] theorem State.setSlot_lip (s : State) (p : StackIndex) (v : Slot) : (s.setSlot p v).lip = s.lip := rfl
@[simp] theorem State.setSlot_lop (s : State) (p : StackIndex) (v : Slot) : (s.setSlot p v).lop = s.lop := rfl
@[simp] theorem State.setSlot_ldp (s : State) (p : StackIndex) (v : Slot) : (s.setSlot p v).ldp = s.ldp := rfl
@[simp] theorem State.setSlot_halted (s : State) (p : StackIndex) (v : Slot) : (s.setSlot p v).halted = s.halted := rfl
@[simp] theorem State.setSlot_report (s : State) (p : StackIndex) (v : Slot) : (s.setSlot p v).report = s.report := rfl
@[simp] theorem State.setSlot_mem (s : State) (p : StackIndex) (v : Slot) : (s.setSlot p v).mem = s.mem := rfl
@[simp] theorem State.setSlot_ax (s : State) (p : StackIndex) (v : Slot) : (s.setSlot p v).ax = s.ax := rfl
@[simp] theorem State.setSlot_port (s : State) (p : StackIndex) (v : Slot) : (s.setSlot p v).port = s.port := rfl
@[simp] theorem State.setSlot_inputs (s : State) (p : StackIndex) (v : Slot) : (s.setSlot p v).inputs = s.inputs := rfl
@[simp] theorem State.setSlot_outputs (s : State) (p : StackIndex) (v : Slot) : (s.setSlot p v).outputs = s.outputs := rfl
@[simp] theorem State.setSlot_draws (s : State) (p : StackIndex) (v : Slot) : (s.setSlot p v).draws = s.draws := rfl

/-! ### `State.setSt` -/

@[simp] theorem State.setSt_slots (s : State) (i : StackIndex) (v : Slot) : (s.setSt i v).slots = s.slots.set (s.phys i).toNat v (s.phys i).isLt := rfl
@[simp] theorem State.setSt_top (s : State) (i : StackIndex) (v : Slot) : (s.setSt i v).top = s.top := rfl
@[simp] theorem State.setSt_tw (s : State) (i : StackIndex) (v : Slot) : (s.setSt i v).tw = s.tw := rfl
@[simp] theorem State.setSt_cw (s : State) (i : StackIndex) (v : Slot) : (s.setSt i v).cw = s.cw := rfl
@[simp] theorem State.setSt_sw (s : State) (i : StackIndex) (v : Slot) : (s.setSt i v).sw = s.sw := rfl
@[simp] theorem State.setSt_lip (s : State) (i : StackIndex) (v : Slot) : (s.setSt i v).lip = s.lip := rfl
@[simp] theorem State.setSt_lop (s : State) (i : StackIndex) (v : Slot) : (s.setSt i v).lop = s.lop := rfl
@[simp] theorem State.setSt_ldp (s : State) (i : StackIndex) (v : Slot) : (s.setSt i v).ldp = s.ldp := rfl
@[simp] theorem State.setSt_halted (s : State) (i : StackIndex) (v : Slot) : (s.setSt i v).halted = s.halted := rfl
@[simp] theorem State.setSt_report (s : State) (i : StackIndex) (v : Slot) : (s.setSt i v).report = s.report := rfl
@[simp] theorem State.setSt_mem (s : State) (i : StackIndex) (v : Slot) : (s.setSt i v).mem = s.mem := rfl
@[simp] theorem State.setSt_ax (s : State) (i : StackIndex) (v : Slot) : (s.setSt i v).ax = s.ax := rfl
@[simp] theorem State.setSt_port (s : State) (i : StackIndex) (v : Slot) : (s.setSt i v).port = s.port := rfl
@[simp] theorem State.setSt_inputs (s : State) (i : StackIndex) (v : Slot) : (s.setSt i v).inputs = s.inputs := rfl
@[simp] theorem State.setSt_outputs (s : State) (i : StackIndex) (v : Slot) : (s.setSt i v).outputs = s.outputs := rfl
@[simp] theorem State.setSt_draws (s : State) (i : StackIndex) (v : Slot) : (s.setSt i v).draws = s.draws := rfl

/-! ### `State.push` -/

@[simp] theorem State.push_slots (s : State) (v : Slot) : (s.push v).slots = s.slots.set (s.top - 1#3).toNat v (s.top - 1#3).isLt := rfl
@[simp] theorem State.push_top (s : State) (v : Slot) : (s.push v).top = s.top - 1#3 := rfl
@[simp] theorem State.push_tw (s : State) (v : Slot) : (s.push v).tw = s.tw := rfl
@[simp] theorem State.push_cw (s : State) (v : Slot) : (s.push v).cw = s.cw := rfl
@[simp] theorem State.push_sw (s : State) (v : Slot) : (s.push v).sw = s.sw := rfl
@[simp] theorem State.push_lip (s : State) (v : Slot) : (s.push v).lip = s.lip := rfl
@[simp] theorem State.push_lop (s : State) (v : Slot) : (s.push v).lop = s.lop := rfl
@[simp] theorem State.push_ldp (s : State) (v : Slot) : (s.push v).ldp = s.ldp := rfl
@[simp] theorem State.push_halted (s : State) (v : Slot) : (s.push v).halted = s.halted := rfl
@[simp] theorem State.push_report (s : State) (v : Slot) : (s.push v).report = s.report := rfl
@[simp] theorem State.push_mem (s : State) (v : Slot) : (s.push v).mem = s.mem := rfl
@[simp] theorem State.push_ax (s : State) (v : Slot) : (s.push v).ax = s.ax := rfl
@[simp] theorem State.push_port (s : State) (v : Slot) : (s.push v).port = s.port := rfl
@[simp] theorem State.push_inputs (s : State) (v : Slot) : (s.push v).inputs = s.inputs := rfl
@[simp] theorem State.push_outputs (s : State) (v : Slot) : (s.push v).outputs = s.outputs := rfl
@[simp] theorem State.push_draws (s : State) (v : Slot) : (s.push v).draws = s.draws := rfl

/-! ### `State.popState` -/

@[simp] theorem State.popState_slots (s : State) : (s.popState).slots = s.slots := rfl
@[simp] theorem State.popState_top (s : State) : (s.popState).top = s.top + 1#3 := rfl
@[simp] theorem State.popState_tw (s : State) : (s.popState).tw = emptyTag s.tw s.top := rfl
@[simp] theorem State.popState_cw (s : State) : (s.popState).cw = s.cw := rfl
@[simp] theorem State.popState_sw (s : State) : (s.popState).sw = s.sw := rfl
@[simp] theorem State.popState_lip (s : State) : (s.popState).lip = s.lip := rfl
@[simp] theorem State.popState_lop (s : State) : (s.popState).lop = s.lop := rfl
@[simp] theorem State.popState_ldp (s : State) : (s.popState).ldp = s.ldp := rfl
@[simp] theorem State.popState_halted (s : State) : (s.popState).halted = s.halted := rfl
@[simp] theorem State.popState_report (s : State) : (s.popState).report = s.report := rfl
@[simp] theorem State.popState_mem (s : State) : (s.popState).mem = s.mem := rfl
@[simp] theorem State.popState_ax (s : State) : (s.popState).ax = s.ax := rfl
@[simp] theorem State.popState_port (s : State) : (s.popState).port = s.port := rfl
@[simp] theorem State.popState_inputs (s : State) : (s.popState).inputs = s.inputs := rfl
@[simp] theorem State.popState_outputs (s : State) : (s.popState).outputs = s.outputs := rfl
@[simp] theorem State.popState_draws (s : State) : (s.popState).draws = s.draws := rfl

/-! ### `State.raise` -/

@[simp] theorem State.raise_slots (s : State) (r : Report) : (s.raise r).slots = s.slots := rfl
@[simp] theorem State.raise_top (s : State) (r : Report) : (s.raise r).top = s.top := rfl
@[simp] theorem State.raise_tw (s : State) (r : Report) : (s.raise r).tw = s.tw := rfl
@[simp] theorem State.raise_cw (s : State) (r : Report) : (s.raise r).cw = s.cw := rfl
@[simp] theorem State.raise_sw (s : State) (r : Report) : (s.raise r).sw = s.sw := rfl
@[simp] theorem State.raise_lip (s : State) (r : Report) : (s.raise r).lip = s.lip := rfl
@[simp] theorem State.raise_lop (s : State) (r : Report) : (s.raise r).lop = s.lop := rfl
@[simp] theorem State.raise_ldp (s : State) (r : Report) : (s.raise r).ldp = s.ldp := rfl
@[simp] theorem State.raise_halted (s : State) (r : Report) : (s.raise r).halted = true := rfl
@[simp] theorem State.raise_report (s : State) (r : Report) : (s.raise r).report = some r := rfl
@[simp] theorem State.raise_mem (s : State) (r : Report) : (s.raise r).mem = s.mem := rfl
@[simp] theorem State.raise_ax (s : State) (r : Report) : (s.raise r).ax = s.ax := rfl
@[simp] theorem State.raise_port (s : State) (r : Report) : (s.raise r).port = s.port := rfl
@[simp] theorem State.raise_inputs (s : State) (r : Report) : (s.raise r).inputs = s.inputs := rfl
@[simp] theorem State.raise_outputs (s : State) (r : Report) : (s.raise r).outputs = s.outputs ++ [.fatal r] := rfl
@[simp] theorem State.raise_draws (s : State) (r : Report) : (s.raise r).draws = s.draws := rfl

/-! ### `State.raiseInstruction` -/

@[simp] theorem State.raiseInstruction_slots (s : State) (g : BitVec 3) (modrm : Byte) : (s.raiseInstruction g modrm).slots = s.slots := rfl
@[simp] theorem State.raiseInstruction_top (s : State) (g : BitVec 3) (modrm : Byte) : (s.raiseInstruction g modrm).top = s.top := rfl
@[simp] theorem State.raiseInstruction_tw (s : State) (g : BitVec 3) (modrm : Byte) : (s.raiseInstruction g modrm).tw = s.tw := rfl
@[simp] theorem State.raiseInstruction_cw (s : State) (g : BitVec 3) (modrm : Byte) : (s.raiseInstruction g modrm).cw = s.cw := rfl
@[simp] theorem State.raiseInstruction_sw (s : State) (g : BitVec 3) (modrm : Byte) : (s.raiseInstruction g modrm).sw = s.sw := rfl
@[simp] theorem State.raiseInstruction_lip (s : State) (g : BitVec 3) (modrm : Byte) : (s.raiseInstruction g modrm).lip = s.lip := rfl
@[simp] theorem State.raiseInstruction_lop (s : State) (g : BitVec 3) (modrm : Byte) : (s.raiseInstruction g modrm).lop = s.lop := rfl
@[simp] theorem State.raiseInstruction_ldp (s : State) (g : BitVec 3) (modrm : Byte) : (s.raiseInstruction g modrm).ldp = s.ldp := rfl
@[simp] theorem State.raiseInstruction_halted (s : State) (g : BitVec 3) (modrm : Byte) : (s.raiseInstruction g modrm).halted = true := rfl
@[simp] theorem State.raiseInstruction_report (s : State) (g : BitVec 3) (modrm : Byte) : (s.raiseInstruction g modrm).report = some (.unimplementedInstruction g (subOpcode modrm) s.port.pc) := rfl
@[simp] theorem State.raiseInstruction_mem (s : State) (g : BitVec 3) (modrm : Byte) : (s.raiseInstruction g modrm).mem = s.mem := rfl
@[simp] theorem State.raiseInstruction_ax (s : State) (g : BitVec 3) (modrm : Byte) : (s.raiseInstruction g modrm).ax = s.ax := rfl
@[simp] theorem State.raiseInstruction_port (s : State) (g : BitVec 3) (modrm : Byte) : (s.raiseInstruction g modrm).port = s.port := rfl
@[simp] theorem State.raiseInstruction_inputs (s : State) (g : BitVec 3) (modrm : Byte) : (s.raiseInstruction g modrm).inputs = s.inputs := rfl
@[simp] theorem State.raiseInstruction_outputs (s : State) (g : BitVec 3) (modrm : Byte) : (s.raiseInstruction g modrm).outputs = s.outputs ++ [.fatal (.unimplementedInstruction g (subOpcode modrm) s.port.pc)] := rfl
@[simp] theorem State.raiseInstruction_draws (s : State) (g : BitVec 3) (modrm : Byte) : (s.raiseInstruction g modrm).draws = s.draws := rfl

/-! ### `State.raiseZeroDivide` -/

@[simp] theorem State.raiseZeroDivide_slots (s : State) : (s.raiseZeroDivide).slots = s.slots := rfl
@[simp] theorem State.raiseZeroDivide_top (s : State) : (s.raiseZeroDivide).top = s.top := rfl
@[simp] theorem State.raiseZeroDivide_tw (s : State) : (s.raiseZeroDivide).tw = s.tw := rfl
@[simp] theorem State.raiseZeroDivide_cw (s : State) : (s.raiseZeroDivide).cw = s.cw := rfl
@[simp] theorem State.raiseZeroDivide_sw (s : State) : (s.raiseZeroDivide).sw = s.sw := rfl
@[simp] theorem State.raiseZeroDivide_lip (s : State) : (s.raiseZeroDivide).lip = s.lip := rfl
@[simp] theorem State.raiseZeroDivide_lop (s : State) : (s.raiseZeroDivide).lop = s.lop := rfl
@[simp] theorem State.raiseZeroDivide_ldp (s : State) : (s.raiseZeroDivide).ldp = s.ldp := rfl
@[simp] theorem State.raiseZeroDivide_halted (s : State) : (s.raiseZeroDivide).halted = true := rfl
@[simp] theorem State.raiseZeroDivide_report (s : State) : (s.raiseZeroDivide).report = some (.unimplementedException .zeroDivide s.port.pc) := rfl
@[simp] theorem State.raiseZeroDivide_mem (s : State) : (s.raiseZeroDivide).mem = s.mem := rfl
@[simp] theorem State.raiseZeroDivide_ax (s : State) : (s.raiseZeroDivide).ax = s.ax := rfl
@[simp] theorem State.raiseZeroDivide_port (s : State) : (s.raiseZeroDivide).port = s.port := rfl
@[simp] theorem State.raiseZeroDivide_inputs (s : State) : (s.raiseZeroDivide).inputs = s.inputs := rfl
@[simp] theorem State.raiseZeroDivide_outputs (s : State) : (s.raiseZeroDivide).outputs = s.outputs ++ [.fatal (.unimplementedException .zeroDivide s.port.pc)] := rfl
@[simp] theorem State.raiseZeroDivide_draws (s : State) : (s.raiseZeroDivide).draws = s.draws := rfl

/-! ### `State.initWords` -/

@[simp] theorem State.initWords_slots (s : State) : (s.initWords).slots = s.slots := rfl
@[simp] theorem State.initWords_top (s : State) : (s.initWords).top = s.top := rfl
@[simp] theorem State.initWords_tw (s : State) : (s.initWords).tw = 0xFFFF#16 := rfl
@[simp] theorem State.initWords_cw (s : State) : (s.initWords).cw = 0x037F#16 := rfl
@[simp] theorem State.initWords_sw (s : State) : (s.initWords).sw = 0x0000#16 := rfl
@[simp] theorem State.initWords_lip (s : State) : (s.initWords).lip = 0#32 := rfl
@[simp] theorem State.initWords_lop (s : State) : (s.initWords).lop = 0#16 := rfl
@[simp] theorem State.initWords_ldp (s : State) : (s.initWords).ldp = 0#32 := rfl
@[simp] theorem State.initWords_halted (s : State) : (s.initWords).halted = s.halted := rfl
@[simp] theorem State.initWords_report (s : State) : (s.initWords).report = s.report := rfl
@[simp] theorem State.initWords_mem (s : State) : (s.initWords).mem = s.mem := rfl
@[simp] theorem State.initWords_ax (s : State) : (s.initWords).ax = s.ax := rfl
@[simp] theorem State.initWords_port (s : State) : (s.initWords).port = s.port := rfl
@[simp] theorem State.initWords_inputs (s : State) : (s.initWords).inputs = s.inputs := rfl
@[simp] theorem State.initWords_outputs (s : State) : (s.initWords).outputs = s.outputs := rfl
@[simp] theorem State.initWords_draws (s : State) : (s.initWords).draws = s.draws := rfl

/-! ### `State.assertReset` -/

@[simp] theorem State.assertReset_slots (s : State) : (s.assertReset).slots = s.slots := rfl
@[simp] theorem State.assertReset_top (s : State) : (s.assertReset).top = s.top := rfl
@[simp] theorem State.assertReset_tw (s : State) : (s.assertReset).tw = 0xFFFF#16 := rfl
@[simp] theorem State.assertReset_cw (s : State) : (s.assertReset).cw = 0x037F#16 := rfl
@[simp] theorem State.assertReset_sw (s : State) : (s.assertReset).sw = 0x0000#16 := rfl
@[simp] theorem State.assertReset_lip (s : State) : (s.assertReset).lip = 0#32 := rfl
@[simp] theorem State.assertReset_lop (s : State) : (s.assertReset).lop = 0#16 := rfl
@[simp] theorem State.assertReset_ldp (s : State) : (s.assertReset).ldp = 0#32 := rfl
@[simp] theorem State.assertReset_halted (s : State) : (s.assertReset).halted = false := rfl
@[simp] theorem State.assertReset_report (s : State) : (s.assertReset).report = none := rfl
@[simp] theorem State.assertReset_mem (s : State) : (s.assertReset).mem = s.mem := rfl
@[simp] theorem State.assertReset_ax (s : State) : (s.assertReset).ax = s.ax := rfl
@[simp] theorem State.assertReset_port (s : State) : (s.assertReset).port = s.port := rfl
@[simp] theorem State.assertReset_inputs (s : State) : (s.assertReset).inputs = s.inputs := rfl
@[simp] theorem State.assertReset_outputs (s : State) : (s.assertReset).outputs = s.outputs := rfl
@[simp] theorem State.assertReset_draws (s : State) : (s.assertReset).draws = s.draws := rfl

/-! ### `State.setSw` -/

@[simp] theorem State.setSw_slots (s : State) (w : Word16) : (s.setSw w).slots = s.slots := rfl
@[simp] theorem State.setSw_top (s : State) (w : Word16) : (s.setSw w).top = s.top := rfl
@[simp] theorem State.setSw_tw (s : State) (w : Word16) : (s.setSw w).tw = s.tw := rfl
@[simp] theorem State.setSw_cw (s : State) (w : Word16) : (s.setSw w).cw = s.cw := rfl
@[simp] theorem State.setSw_sw (s : State) (w : Word16) : (s.setSw w).sw = w := rfl
@[simp] theorem State.setSw_lip (s : State) (w : Word16) : (s.setSw w).lip = s.lip := rfl
@[simp] theorem State.setSw_lop (s : State) (w : Word16) : (s.setSw w).lop = s.lop := rfl
@[simp] theorem State.setSw_ldp (s : State) (w : Word16) : (s.setSw w).ldp = s.ldp := rfl
@[simp] theorem State.setSw_halted (s : State) (w : Word16) : (s.setSw w).halted = s.halted := rfl
@[simp] theorem State.setSw_report (s : State) (w : Word16) : (s.setSw w).report = s.report := rfl
@[simp] theorem State.setSw_mem (s : State) (w : Word16) : (s.setSw w).mem = s.mem := rfl
@[simp] theorem State.setSw_ax (s : State) (w : Word16) : (s.setSw w).ax = s.ax := rfl
@[simp] theorem State.setSw_port (s : State) (w : Word16) : (s.setSw w).port = s.port := rfl
@[simp] theorem State.setSw_inputs (s : State) (w : Word16) : (s.setSw w).inputs = s.inputs := rfl
@[simp] theorem State.setSw_outputs (s : State) (w : Word16) : (s.setSw w).outputs = s.outputs := rfl
@[simp] theorem State.setSw_draws (s : State) (w : Word16) : (s.setSw w).draws = s.draws := rfl

/-! ### `State.setCw` -/

@[simp] theorem State.setCw_slots (s : State) (w : Word16) : (s.setCw w).slots = s.slots := rfl
@[simp] theorem State.setCw_top (s : State) (w : Word16) : (s.setCw w).top = s.top := rfl
@[simp] theorem State.setCw_tw (s : State) (w : Word16) : (s.setCw w).tw = s.tw := rfl
@[simp] theorem State.setCw_cw (s : State) (w : Word16) : (s.setCw w).cw = w := rfl
@[simp] theorem State.setCw_sw (s : State) (w : Word16) : (s.setCw w).sw = s.sw := rfl
@[simp] theorem State.setCw_lip (s : State) (w : Word16) : (s.setCw w).lip = s.lip := rfl
@[simp] theorem State.setCw_lop (s : State) (w : Word16) : (s.setCw w).lop = s.lop := rfl
@[simp] theorem State.setCw_ldp (s : State) (w : Word16) : (s.setCw w).ldp = s.ldp := rfl
@[simp] theorem State.setCw_halted (s : State) (w : Word16) : (s.setCw w).halted = s.halted := rfl
@[simp] theorem State.setCw_report (s : State) (w : Word16) : (s.setCw w).report = s.report := rfl
@[simp] theorem State.setCw_mem (s : State) (w : Word16) : (s.setCw w).mem = s.mem := rfl
@[simp] theorem State.setCw_ax (s : State) (w : Word16) : (s.setCw w).ax = s.ax := rfl
@[simp] theorem State.setCw_port (s : State) (w : Word16) : (s.setCw w).port = s.port := rfl
@[simp] theorem State.setCw_inputs (s : State) (w : Word16) : (s.setCw w).inputs = s.inputs := rfl
@[simp] theorem State.setCw_outputs (s : State) (w : Word16) : (s.setCw w).outputs = s.outputs := rfl
@[simp] theorem State.setCw_draws (s : State) (w : Word16) : (s.setCw w).draws = s.draws := rfl

/-! ### `State.sample` -/

@[simp] theorem State.sample_slots (s : State) (p : Presented) : (s.sample p).slots = s.slots := rfl
@[simp] theorem State.sample_top (s : State) (p : Presented) : (s.sample p).top = s.top := rfl
@[simp] theorem State.sample_tw (s : State) (p : Presented) : (s.sample p).tw = s.tw := rfl
@[simp] theorem State.sample_cw (s : State) (p : Presented) : (s.sample p).cw = s.cw := rfl
@[simp] theorem State.sample_sw (s : State) (p : Presented) : (s.sample p).sw = s.sw := rfl
@[simp] theorem State.sample_lip (s : State) (p : Presented) : (s.sample p).lip = s.lip := rfl
@[simp] theorem State.sample_lop (s : State) (p : Presented) : (s.sample p).lop = s.lop := rfl
@[simp] theorem State.sample_ldp (s : State) (p : Presented) : (s.sample p).ldp = s.ldp := rfl
@[simp] theorem State.sample_halted (s : State) (p : Presented) : (s.sample p).halted = s.halted := rfl
@[simp] theorem State.sample_report (s : State) (p : Presented) : (s.sample p).report = s.report := rfl
@[simp] theorem State.sample_mem (s : State) (p : Presented) : (s.sample p).mem = s.mem := rfl
@[simp] theorem State.sample_ax (s : State) (p : Presented) : (s.sample p).ax = s.ax := rfl
@[simp] theorem State.sample_port (s : State) (p : Presented) : (s.sample p).port = p := rfl
@[simp] theorem State.sample_inputs (s : State) (p : Presented) : (s.sample p).inputs = s.inputs := rfl
@[simp] theorem State.sample_outputs (s : State) (p : Presented) : (s.sample p).outputs = s.outputs := rfl
@[simp] theorem State.sample_draws (s : State) (p : Presented) : (s.sample p).draws = s.draws := rfl

/-! ### `State.setInputs` -/

@[simp] theorem State.setInputs_slots (s : State) (l : List HostInput) : (s.setInputs l).slots = s.slots := rfl
@[simp] theorem State.setInputs_top (s : State) (l : List HostInput) : (s.setInputs l).top = s.top := rfl
@[simp] theorem State.setInputs_tw (s : State) (l : List HostInput) : (s.setInputs l).tw = s.tw := rfl
@[simp] theorem State.setInputs_cw (s : State) (l : List HostInput) : (s.setInputs l).cw = s.cw := rfl
@[simp] theorem State.setInputs_sw (s : State) (l : List HostInput) : (s.setInputs l).sw = s.sw := rfl
@[simp] theorem State.setInputs_lip (s : State) (l : List HostInput) : (s.setInputs l).lip = s.lip := rfl
@[simp] theorem State.setInputs_lop (s : State) (l : List HostInput) : (s.setInputs l).lop = s.lop := rfl
@[simp] theorem State.setInputs_ldp (s : State) (l : List HostInput) : (s.setInputs l).ldp = s.ldp := rfl
@[simp] theorem State.setInputs_halted (s : State) (l : List HostInput) : (s.setInputs l).halted = s.halted := rfl
@[simp] theorem State.setInputs_report (s : State) (l : List HostInput) : (s.setInputs l).report = s.report := rfl
@[simp] theorem State.setInputs_mem (s : State) (l : List HostInput) : (s.setInputs l).mem = s.mem := rfl
@[simp] theorem State.setInputs_ax (s : State) (l : List HostInput) : (s.setInputs l).ax = s.ax := rfl
@[simp] theorem State.setInputs_port (s : State) (l : List HostInput) : (s.setInputs l).port = s.port := rfl
@[simp] theorem State.setInputs_inputs (s : State) (l : List HostInput) : (s.setInputs l).inputs = l := rfl
@[simp] theorem State.setInputs_outputs (s : State) (l : List HostInput) : (s.setInputs l).outputs = s.outputs := rfl
@[simp] theorem State.setInputs_draws (s : State) (l : List HostInput) : (s.setInputs l).draws = s.draws := rfl

@[simp] theorem State.pop_fst (s : State) : s.pop.1 = s.slot s.top := rfl
@[simp] theorem State.pop_snd (s : State) : s.pop.2 = s.popState := rfl

/-! ### `State.powerOn` -/

@[simp] theorem State.powerOn_slots (p : LaunchParameters) : (State.powerOn p).slots = p.slots := rfl
@[simp] theorem State.powerOn_top (p : LaunchParameters) : (State.powerOn p).top = p.top := rfl
@[simp] theorem State.powerOn_tw (p : LaunchParameters) : (State.powerOn p).tw = p.tw := rfl
@[simp] theorem State.powerOn_cw (p : LaunchParameters) : (State.powerOn p).cw = p.cw := rfl
@[simp] theorem State.powerOn_sw (p : LaunchParameters) : (State.powerOn p).sw = p.sw := rfl
@[simp] theorem State.powerOn_lip (p : LaunchParameters) : (State.powerOn p).lip = p.lip := rfl
@[simp] theorem State.powerOn_lop (p : LaunchParameters) : (State.powerOn p).lop = p.lop := rfl
@[simp] theorem State.powerOn_ldp (p : LaunchParameters) : (State.powerOn p).ldp = p.ldp := rfl
@[simp] theorem State.powerOn_halted (p : LaunchParameters) : (State.powerOn p).halted = false := rfl
@[simp] theorem State.powerOn_report (p : LaunchParameters) : (State.powerOn p).report = none := rfl
@[simp] theorem State.powerOn_mem (p : LaunchParameters) : (State.powerOn p).mem = [] := rfl
@[simp] theorem State.powerOn_ax (p : LaunchParameters) : (State.powerOn p).ax = 0#16 := rfl
@[simp] theorem State.powerOn_port (p : LaunchParameters) : (State.powerOn p).port = ⟨0#8, 0#8, 0#32, 0#32⟩ := rfl
@[simp] theorem State.powerOn_inputs (p : LaunchParameters) : (State.powerOn p).inputs = [] := rfl
@[simp] theorem State.powerOn_outputs (p : LaunchParameters) : (State.powerOn p).outputs = [] := rfl
@[simp] theorem State.powerOn_draws (p : LaunchParameters) : (State.powerOn p).draws = 0 := rfl

/-- The state after reset is a power-on state, with `top` and the slots as log entry 2 chooses them, after `RESET`. -/
theorem State.reset_eq_assertReset_powerOn (tw cw sw lop : Word16) (lip ldp : BitVec 32) :
    State.reset = (State.powerOn ⟨Vector.replicate 8 0#64, 0#3, tw, cw, sw, lip, lop, ldp⟩).assertReset := rfl

/-- `RESET` leaves a power-on state's `top` and slots (70_reset_and_hazards.md R352). -/
theorem State.assertReset_powerOn (p : LaunchParameters) :
    (State.powerOn p).assertReset = { State.reset with slots := p.slots, top := p.top } := rfl

end Sys2Proof.Machine
end

