-- ==== Sys2Proof/Laws/Stack.lean ====
section
/-! SUPPORT. What reading a slot, a stack register or a byte gives after each update; the laws of the register-stack controller
(40_stack_controller.md R100 to R107) and of a store. -/

namespace Sys2Proof.Machine

/-! ### Reads that an update does not reach -/

@[simp] theorem State.slot_emit (s : State) (e : PortEvent) (q : StackIndex) : (s.emit e).slot q = s.slot q := rfl
@[simp] theorem State.phys_emit (s : State) (e : PortEvent) (j : StackIndex) : (s.emit e).phys j = s.phys j := rfl
@[simp] theorem State.st_emit (s : State) (e : PortEvent) (j : StackIndex) : (s.emit e).st j = s.st j := rfl
@[simp] theorem State.slot_busRead (s : State) (a : Addr) (w : AccessWidth) (q : StackIndex) : (s.busRead a w).slot q = s.slot q := rfl
@[simp] theorem State.phys_busRead (s : State) (a : Addr) (w : AccessWidth) (j : StackIndex) : (s.busRead a w).phys j = s.phys j := rfl
@[simp] theorem State.st_busRead (s : State) (a : Addr) (w : AccessWidth) (j : StackIndex) : (s.busRead a w).st j = s.st j := rfl
@[simp] theorem State.slot_busWrite (s : State) (a : Addr) (w : AccessWidth) (v : BitVec 64) (q : StackIndex) : (s.busWrite a w v).slot q = s.slot q := rfl
@[simp] theorem State.phys_busWrite (s : State) (a : Addr) (w : AccessWidth) (v : BitVec 64) (j : StackIndex) : (s.busWrite a w v).phys j = s.phys j := rfl
@[simp] theorem State.st_busWrite (s : State) (a : Addr) (w : AccessWidth) (v : BitVec 64) (j : StackIndex) : (s.busWrite a w v).st j = s.st j := rfl
@[simp] theorem State.slot_writeAx (s : State) (v : Word16) (q : StackIndex) : (s.writeAx v).slot q = s.slot q := rfl
@[simp] theorem State.phys_writeAx (s : State) (v : Word16) (j : StackIndex) : (s.writeAx v).phys j = s.phys j := rfl
@[simp] theorem State.st_writeAx (s : State) (v : Word16) (j : StackIndex) : (s.writeAx v).st j = s.st j := rfl
@[simp] theorem State.slot_afterDraw (s : State) (q : StackIndex) : (s.afterDraw).slot q = s.slot q := rfl
@[simp] theorem State.phys_afterDraw (s : State) (j : StackIndex) : (s.afterDraw).phys j = s.phys j := rfl
@[simp] theorem State.st_afterDraw (s : State) (j : StackIndex) : (s.afterDraw).st j = s.st j := rfl
@[simp] theorem State.slot_raise (s : State) (r : Report) (q : StackIndex) : (s.raise r).slot q = s.slot q := rfl
@[simp] theorem State.phys_raise (s : State) (r : Report) (j : StackIndex) : (s.raise r).phys j = s.phys j := rfl
@[simp] theorem State.st_raise (s : State) (r : Report) (j : StackIndex) : (s.raise r).st j = s.st j := rfl
@[simp] theorem State.slot_raiseInstruction (s : State) (g : BitVec 3) (modrm : Byte) (q : StackIndex) : (s.raiseInstruction g modrm).slot q = s.slot q := rfl
@[simp] theorem State.phys_raiseInstruction (s : State) (g : BitVec 3) (modrm : Byte) (j : StackIndex) : (s.raiseInstruction g modrm).phys j = s.phys j := rfl
@[simp] theorem State.st_raiseInstruction (s : State) (g : BitVec 3) (modrm : Byte) (j : StackIndex) : (s.raiseInstruction g modrm).st j = s.st j := rfl
@[simp] theorem State.slot_raiseZeroDivide (s : State) (q : StackIndex) : (s.raiseZeroDivide).slot q = s.slot q := rfl
@[simp] theorem State.phys_raiseZeroDivide (s : State) (j : StackIndex) : (s.raiseZeroDivide).phys j = s.phys j := rfl
@[simp] theorem State.st_raiseZeroDivide (s : State) (j : StackIndex) : (s.raiseZeroDivide).st j = s.st j := rfl
@[simp] theorem State.slot_initWords (s : State) (q : StackIndex) : (s.initWords).slot q = s.slot q := rfl
@[simp] theorem State.phys_initWords (s : State) (j : StackIndex) : (s.initWords).phys j = s.phys j := rfl
@[simp] theorem State.st_initWords (s : State) (j : StackIndex) : (s.initWords).st j = s.st j := rfl
@[simp] theorem State.slot_assertReset (s : State) (q : StackIndex) : (s.assertReset).slot q = s.slot q := rfl
@[simp] theorem State.phys_assertReset (s : State) (j : StackIndex) : (s.assertReset).phys j = s.phys j := rfl
@[simp] theorem State.st_assertReset (s : State) (j : StackIndex) : (s.assertReset).st j = s.st j := rfl
@[simp] theorem State.slot_setSw (s : State) (w : Word16) (q : StackIndex) : (s.setSw w).slot q = s.slot q := rfl
@[simp] theorem State.phys_setSw (s : State) (w : Word16) (j : StackIndex) : (s.setSw w).phys j = s.phys j := rfl
@[simp] theorem State.st_setSw (s : State) (w : Word16) (j : StackIndex) : (s.setSw w).st j = s.st j := rfl
@[simp] theorem State.slot_setCw (s : State) (w : Word16) (q : StackIndex) : (s.setCw w).slot q = s.slot q := rfl
@[simp] theorem State.phys_setCw (s : State) (w : Word16) (j : StackIndex) : (s.setCw w).phys j = s.phys j := rfl
@[simp] theorem State.st_setCw (s : State) (w : Word16) (j : StackIndex) : (s.setCw w).st j = s.st j := rfl
@[simp] theorem State.slot_sample (s : State) (p : Presented) (q : StackIndex) : (s.sample p).slot q = s.slot q := rfl
@[simp] theorem State.phys_sample (s : State) (p : Presented) (j : StackIndex) : (s.sample p).phys j = s.phys j := rfl
@[simp] theorem State.st_sample (s : State) (p : Presented) (j : StackIndex) : (s.sample p).st j = s.st j := rfl
@[simp] theorem State.slot_setInputs (s : State) (l : List HostInput) (q : StackIndex) : (s.setInputs l).slot q = s.slot q := rfl
@[simp] theorem State.phys_setInputs (s : State) (l : List HostInput) (j : StackIndex) : (s.setInputs l).phys j = s.phys j := rfl
@[simp] theorem State.st_setInputs (s : State) (l : List HostInput) (j : StackIndex) : (s.setInputs l).st j = s.st j := rfl
@[simp] theorem State.slot_popState (s : State) (q : StackIndex) : s.popState.slot q = s.slot q := rfl
@[simp] theorem State.phys_setSlot (s : State) (p : StackIndex) (v : Slot) (j : StackIndex) : (s.setSlot p v).phys j = s.phys j := rfl
@[simp] theorem State.phys_setSt (s : State) (i : StackIndex) (v : Slot) (j : StackIndex) : (s.setSt i v).phys j = s.phys j := rfl
@[simp] theorem State.byteAt_emit (s : State) (e : PortEvent) (x : Addr) : (s.emit e).byteAt x = s.byteAt x := rfl
@[simp] theorem State.busValue_emit (s : State) (e : PortEvent) (x : Addr) (k : AccessWidth) : (s.emit e).busValue x k = s.busValue x k := rfl
@[simp] theorem State.byteAt_busRead (s : State) (a : Addr) (w : AccessWidth) (x : Addr) : (s.busRead a w).byteAt x = s.byteAt x := rfl
@[simp] theorem State.busValue_busRead (s : State) (a : Addr) (w : AccessWidth) (x : Addr) (k : AccessWidth) : (s.busRead a w).busValue x k = s.busValue x k := rfl
@[simp] theorem State.byteAt_writeAx (s : State) (v : Word16) (x : Addr) : (s.writeAx v).byteAt x = s.byteAt x := rfl
@[simp] theorem State.busValue_writeAx (s : State) (v : Word16) (x : Addr) (k : AccessWidth) : (s.writeAx v).busValue x k = s.busValue x k := rfl
@[simp] theorem State.byteAt_afterDraw (s : State) (x : Addr) : (s.afterDraw).byteAt x = s.byteAt x := rfl
@[simp] theorem State.busValue_afterDraw (s : State) (x : Addr) (k : AccessWidth) : (s.afterDraw).busValue x k = s.busValue x k := rfl
@[simp] theorem State.byteAt_raise (s : State) (r : Report) (x : Addr) : (s.raise r).byteAt x = s.byteAt x := rfl
@[simp] theorem State.busValue_raise (s : State) (r : Report) (x : Addr) (k : AccessWidth) : (s.raise r).busValue x k = s.busValue x k := rfl
@[simp] theorem State.byteAt_raiseInstruction (s : State) (g : BitVec 3) (modrm : Byte) (x : Addr) : (s.raiseInstruction g modrm).byteAt x = s.byteAt x := rfl
@[simp] theorem State.busValue_raiseInstruction (s : State) (g : BitVec 3) (modrm : Byte) (x : Addr) (k : AccessWidth) : (s.raiseInstruction g modrm).busValue x k = s.busValue x k := rfl
@[simp] theorem State.byteAt_raiseZeroDivide (s : State) (x : Addr) : (s.raiseZeroDivide).byteAt x = s.byteAt x := rfl
@[simp] theorem State.busValue_raiseZeroDivide (s : State) (x : Addr) (k : AccessWidth) : (s.raiseZeroDivide).busValue x k = s.busValue x k := rfl
@[simp] theorem State.byteAt_initWords (s : State) (x : Addr) : (s.initWords).byteAt x = s.byteAt x := rfl
@[simp] theorem State.busValue_initWords (s : State) (x : Addr) (k : AccessWidth) : (s.initWords).busValue x k = s.busValue x k := rfl
@[simp] theorem State.byteAt_assertReset (s : State) (x : Addr) : (s.assertReset).byteAt x = s.byteAt x := rfl
@[simp] theorem State.busValue_assertReset (s : State) (x : Addr) (k : AccessWidth) : (s.assertReset).busValue x k = s.busValue x k := rfl
@[simp] theorem State.byteAt_setSw (s : State) (w : Word16) (x : Addr) : (s.setSw w).byteAt x = s.byteAt x := rfl
@[simp] theorem State.busValue_setSw (s : State) (w : Word16) (x : Addr) (k : AccessWidth) : (s.setSw w).busValue x k = s.busValue x k := rfl
@[simp] theorem State.byteAt_setCw (s : State) (w : Word16) (x : Addr) : (s.setCw w).byteAt x = s.byteAt x := rfl
@[simp] theorem State.busValue_setCw (s : State) (w : Word16) (x : Addr) (k : AccessWidth) : (s.setCw w).busValue x k = s.busValue x k := rfl
@[simp] theorem State.byteAt_sample (s : State) (p : Presented) (x : Addr) : (s.sample p).byteAt x = s.byteAt x := rfl
@[simp] theorem State.busValue_sample (s : State) (p : Presented) (x : Addr) (k : AccessWidth) : (s.sample p).busValue x k = s.busValue x k := rfl
@[simp] theorem State.byteAt_setInputs (s : State) (l : List HostInput) (x : Addr) : (s.setInputs l).byteAt x = s.byteAt x := rfl
@[simp] theorem State.busValue_setInputs (s : State) (l : List HostInput) (x : Addr) (k : AccessWidth) : (s.setInputs l).busValue x k = s.busValue x k := rfl
@[simp] theorem State.byteAt_setSlot (s : State) (p : StackIndex) (v : Slot) (x : Addr) : (s.setSlot p v).byteAt x = s.byteAt x := rfl
@[simp] theorem State.busValue_setSlot (s : State) (p : StackIndex) (v : Slot) (x : Addr) (k : AccessWidth) : (s.setSlot p v).busValue x k = s.busValue x k := rfl
@[simp] theorem State.byteAt_setSt (s : State) (i : StackIndex) (v : Slot) (x : Addr) : (s.setSt i v).byteAt x = s.byteAt x := rfl
@[simp] theorem State.busValue_setSt (s : State) (i : StackIndex) (v : Slot) (x : Addr) (k : AccessWidth) : (s.setSt i v).busValue x k = s.busValue x k := rfl
@[simp] theorem State.byteAt_push (s : State) (v : Slot) (x : Addr) : (s.push v).byteAt x = s.byteAt x := rfl
@[simp] theorem State.busValue_push (s : State) (v : Slot) (x : Addr) (k : AccessWidth) : (s.push v).busValue x k = s.busValue x k := rfl
@[simp] theorem State.byteAt_popState (s : State) (x : Addr) : (s.popState).byteAt x = s.byteAt x := rfl
@[simp] theorem State.busValue_popState (s : State) (x : Addr) (k : AccessWidth) : (s.popState).busValue x k = s.busValue x k := rfl

/-! ### Slots -/

/-- A slot after a slot is written. -/
@[simp] theorem State.slot_setSlot (s : State) (p q : StackIndex) (v : Slot) :
    (s.setSlot p v).slot q = if p = q then v else s.slot q := by
  unfold State.slot State.setSlot
  rw [Vector.getElem_set]
  simp [← BitVec.toNat_eq]

/-- A slot after a stack register is written. -/
@[simp] theorem State.slot_setSt (s : State) (i q : StackIndex) (v : Slot) :
    (s.setSt i v).slot q = if s.phys i = q then v else s.slot q := State.slot_setSlot s (s.phys i) q v

/-- Two stack registers are one slot exactly when their indices agree (R100). -/
@[simp] theorem State.phys_inj (s : State) (i j : StackIndex) : s.phys i = s.phys j ↔ i = j := by
  unfold State.phys
  constructor
  · intro h; bv_omega
  · rintro rfl; rfl

/-- A stack register after a stack register is written (R103, R104). -/
@[simp] theorem State.st_setSt (s : State) (i j : StackIndex) (v : Slot) :
    (s.setSt i v).st j = if i = j then v else s.st j := by
  simp [State.st]

theorem State.st_eq_slot (s : State) (i : StackIndex) : s.st i = s.slot (s.phys i) := rfl

/-- The top register is the slot `top` (R100). -/
@[simp] theorem State.phys_zero (s : State) : s.phys 0#3 = s.top := by simp [State.phys]

/-! ### Push and pop -/

@[simp] theorem State.slot_push (s : State) (v : Slot) (q : StackIndex) :
    (s.push v).slot q = if s.top - 1#3 = q then v else s.slot q :=
  State.slot_setSlot { s with top := s.top - 1#3 } (s.top - 1#3) q v

theorem State.phys_push (s : State) (v : Slot) (i : StackIndex) : (s.push v).phys i = s.phys (i - 1#3) := by
  simp only [State.phys, State.push_top]
  bv_omega

/-- The pushed value is on top (R107 (a)). -/
@[simp] theorem State.st_push_zero (s : State) (v : Slot) : (s.push v).st 0#3 = v := by
  simp [State.st_eq_slot]

/-- The other registers move down by one (R107 (c)). -/
theorem State.st_push_succ (s : State) (v : Slot) (i : StackIndex) (h : i ≠ 7#3) : (s.push v).st (i + 1#3) = s.st i := by
  have hne : s.top - 1#3 ≠ s.phys i := by
    intro e
    apply h
    simp only [State.phys] at e
    bv_omega
  simp [State.st_eq_slot, State.phys_push, hne]

theorem State.phys_popState (s : State) (i : StackIndex) : s.popState.phys i = s.phys (i + 1#3) := by
  simp only [State.phys, State.popState_top]
  bv_omega

/-- After a pop every register is the one above it before (R107 (d)). -/
@[simp] theorem State.st_popState (s : State) (i : StackIndex) : s.popState.st i = s.st (i + 1#3) := by
  simp [State.st_eq_slot, State.phys_popState]

/-- The popped slot's tag is Empty (R102). -/
@[simp] theorem tagOf_emptyTag_self (tw : Word16) (p : StackIndex) : tagOf (emptyTag tw p) p = 3#2 := by
  have h : ∀ q : BitVec 3, (3#16 <<< (2 * q.toNat)).extractLsb' (2 * q.toNat) 2 = 3#2 := by decide
  rw [tagOf, emptyTag, BitVec.extractLsb'_or, h]
  generalize tw.extractLsb' (2 * p.toNat) 2 = x
  revert x
  decide

/-- Every other tag is as it was (R102). -/
theorem tagOf_emptyTag_of_ne (tw : Word16) {p q : StackIndex} (h : q ≠ p) : tagOf (emptyTag tw p) q = tagOf tw q := by
  apply BitVec.eq_of_getLsbD_eq
  intro k hk
  have hne : q.toNat ≠ p.toNat := fun e => h (BitVec.eq_of_toNat_eq e)
  simp only [tagOf, emptyTag, BitVec.getLsbD_extractLsb', BitVec.getLsbD_or, BitVec.getLsbD_shiftLeft]
  have : (3#16).getLsbD (2 * q.toNat + k - 2 * p.toNat) = false ∨ 2 * q.toNat + k < 2 * p.toNat := by
    rcases Nat.lt_or_ge (2 * q.toNat + k) (2 * p.toNat) with hlt | hge
    · exact Or.inr hlt
    · left
      have h2 : 2 ≤ 2 * q.toNat + k - 2 * p.toNat := by omega
      rw [BitVec.getLsbD_ofNat]
      have : Nat.testBit 3 (2 * q.toNat + k - 2 * p.toNat) = false := by
        apply Nat.testBit_lt_two_pow
        calc 3 < 2 ^ 2 := by decide
          _ ≤ _ := Nat.pow_le_pow_right (by decide) h2
      simp [this]
  rcases this with h0 | h0 <;> simp [h0, hk]

/-- A pop only sets tag bits (10_state.md R29). -/
theorem and_emptyTag (tw : Word16) (p : StackIndex) : tw &&& emptyTag tw p = tw := by
  apply BitVec.eq_of_getLsbD_eq
  intro k _
  simp only [emptyTag, BitVec.getLsbD_and, BitVec.getLsbD_or]
  cases tw.getLsbD k <;> simp

/-- A pop of a tag word that is all ones leaves it (10_state.md R29). -/
@[simp] theorem emptyTag_allOnes : ∀ p : StackIndex, emptyTag 0xFFFF#16 p = 0xFFFF#16 := by decide

/-! ### Stores -/

/-- A store leaves the bytes outside its own alone (20_memory.md R55). -/
theorem State.byteAt_busWrite_outside (s : State) (ea : Addr) (w : AccessWidth) (v : BitVec 64) (x : Addr)
    (h : w.bytes ≤ (x - ea).toNat) : (s.busWrite ea w v).byteAt x = s.byteAt x :=
  Memory.readByte_writeBytes_of_outside w.bytes s.mem ea x v.toNat h

/-- The bytes of a store, little-endian (20_memory.md R51). -/
theorem State.byteAt_busWrite_inside (s : State) (ea : Addr) (w : AccessWidth) (v : BitVec 64) (k : Nat) (hm : s.mem.wf = true)
    (hk : k < w.bytes) : (s.busWrite ea w v).byteAt (ea + BitVec.ofNat 32 k) = v.extractLsb' (8 * k) 8 := by
  have hb : w.bytes ≤ 4294967296 := by cases w <;> decide
  have h := Memory.readByte_writeBytes_of_inside w.bytes s.mem ea v.toNat k hb hk hm
  have e : (BitVec.ofNat 8 (v.toNat / 256 ^ k) : Byte) = v.extractLsb' (8 * k) 8 := by
    apply BitVec.eq_of_toNat_eq
    rw [BitVec.extractLsb'_toNat, BitVec.toNat_ofNat, Nat.shiftRight_eq_div_pow, Nat.pow_mul]
  exact h.trans e

/-- A store keeps the canonical form of memory. -/
theorem State.wf_busWrite (s : State) (ea : Addr) (w : AccessWidth) (v : BitVec 64) (hm : s.mem.wf = true) :
    (s.busWrite ea w v).mem.wf = true := Memory.wf_writeBytes w.bytes s.mem ea v.toNat hm

end Sys2Proof.Machine
end

