-- ==== Sys2Proof/Laws/Meanings.lean ====
section
/-! SUPPORT. What each shared operation of the meanings can do, said once, and the inversion of a step. -/

namespace Sys2Proof.Machine

/-! ### Arithmetic (42_arithmetic.md) -/

/-- The D8 and DC forms either take the class 2 fatal or write one register. -/
theorem arithInto_cases (op : ArithOp) (i : StackIndex) (src : Slot) (s : State) :
    (zeroDivisor op (s.st i) src = true ∧ arithInto op i src s = s.raiseZeroDivide)
      ∨ (zeroDivisor op (s.st i) src = false
        ∧ arithInto op i src s = (s.setSt i (arithValue op (s.st i) src s.draw)).afterDraw) := by
  unfold arithInto
  cases zeroDivisor op (s.st i) src <;> simp

/-- With a zero divisor: the fatal (R145). -/
theorem arithInto_of_zeroDivisor {op : ArithOp} {i : StackIndex} {src : Slot} {s : State}
    (h : zeroDivisor op (s.st i) src = true) : arithInto op i src s = s.raiseZeroDivide := by
  simp [arithInto, h]

/-- Without one: the result (R141 to R143). -/
theorem arithInto_of_divisor {op : ArithOp} {i : StackIndex} {src : Slot} {s : State}
    (h : zeroDivisor op (s.st i) src = false) :
    arithInto op i src s = (s.setSt i (arithValue op (s.st i) src s.draw)).afterDraw := by
  simp [arithInto, h]

/-- The masked infinity of a pop divide has the exclusive-or of the operands' signs (R146). -/
theorem popDivide_masked {n dv d : Slot} (h : Num.isZero dv = true) :
    popDivide true n dv d = Num.inf64 (n.msb ^^ dv.msb) := by
  have e : ∀ x : Slot, Num.pinf64 ||| (x &&& Num.sign64) = Num.inf64 x.msb := by
    intro x
    apply BitVec.eq_of_getLsbD_eq
    intro k hk
    have hs : Num.sign64 = BitVec.twoPow 64 63 := by decide
    have hn : Num.ninf64 = Num.pinf64 ||| BitVec.twoPow 64 63 := by decide
    rw [Num.inf64, hs]
    cases hx : x.msb
    · rw [BitVec.msb_eq_getLsbD_last] at hx
      simp only [BitVec.getLsbD_or, BitVec.getLsbD_and, BitVec.getLsbD_twoPow]
      by_cases hk63 : k = 63
      · subst hk63; simp_all
      · simp [Ne.symm hk63]
    · rw [BitVec.msb_eq_getLsbD_last] at hx
      simp only [hn, if_true, BitVec.getLsbD_or, BitVec.getLsbD_and, BitVec.getLsbD_twoPow]
      by_cases hk63 : k = 63
      · subst hk63; simp_all
      · simp [Ne.symm hk63]
  simp [popDivide, h, e, BitVec.msb_xor]

/-- The unmasked zero divide is the draw (R146). -/
theorem popDivide_unmasked {n dv d : Slot} (h : Num.isZero dv = true) : popDivide false n dv d = d := by
  simp [popDivide, h]

/-- With any other divisor, the quotient (R146). -/
theorem popDivide_of_divisor {masked : Bool} {n dv d : Slot} (h : Num.isZero dv = false) :
    popDivide masked n dv d = Num.fdiv n dv d := by
  simp [popDivide, h]

/-! ### Status word (43_compare.md, 10_state.md) -/

theorem getLsbD_maskIf (b : Bool) (mask : Word16) (k : Nat) : (maskIf b mask).getLsbD k = (b && mask.getLsbD k) := by
  cases b <;> simp [maskIf]

/-- What `Compare` leaves of each bit (R190, R191). -/
theorem getLsbD_compareWord (sw : Word16) (a b : Slot) (k : Nat) :
    (compareWord sw a b).getLsbD k
      = ((sw.getLsbD k && (0xBAFF#16).getLsbD k) || (Num.feq a b && (0x4000#16).getLsbD k)
        || (Num.flt a b && (0x0100#16).getLsbD k)) := by
  simp [compareWord, clearCC, getLsbD_maskIf, maskC3, maskC0, BitVec.getLsbD_or, BitVec.getLsbD_and]

/-- `Compare` leaves every bit but C3, C2 and C0 (R191). -/
theorem compareWord_and_keep (sw : Word16) (a b : Slot) : compareWord sw a b &&& 0xBAFF#16 = sw &&& 0xBAFF#16 := by
  simp only [compareWord, clearCC, maskIf, maskC3, maskC0]
  cases Num.feq a b <;> cases Num.flt a b <;>
    simp [BitVec.and_assoc, BitVec.and_or_distrib_right]

/-- The bits FCOMPP writes for unordered operands are C3, C2 and C0 (43_compare.md R198). -/
theorem unorderedBits_and_keep : unorderedBits &&& 0xBAFF#16 = 0#16 := by
  unfold unorderedBits
  cases Config.fcomppUnorderedCC.c3 <;> cases Config.fcomppUnorderedCC.c2 <;> cases Config.fcomppUnorderedCC.c0 <;> decide

/-- FCOMPP on operands that are no NaNs is `Compare` (43_compare.md R198). -/
theorem comparePPWord_of_ordered (sw : Word16) {a b : Slot} (ha : Num.isNaN a = false) (hb : Num.isNaN b = false) :
    comparePPWord sw a b = compareWord sw a b := by
  have h : (Num.flt a b = true ∧ Num.feq a b = false ∧ Num.fgt a b = false)
      ∨ (Num.flt a b = false ∧ Num.feq a b = true ∧ Num.fgt a b = false)
      ∨ (Num.flt a b = false ∧ Num.feq a b = false ∧ Num.fgt a b = true) := by
    simp only [Num.feq, Num.flt, Num.fgt, ha, hb, Bool.not_false, Bool.true_and, beq_iff_eq, beq_eq_false_iff_ne,
      decide_eq_true_eq, decide_eq_false_iff_not]
    omega
  rcases h with ⟨h1, h2, h3⟩ | ⟨h1, h2, h3⟩ | ⟨h1, h2, h3⟩ <;> simp [comparePPWord, compareWord, maskIf, h1, h2, h3]

/-- FCOMPP with a NaN writes the open bits (43_compare.md R198). -/
theorem comparePPWord_of_unordered (sw : Word16) {a b : Slot} (h : Num.isNaN a = true ∨ Num.isNaN b = true) :
    comparePPWord sw a b = clearCC sw ||| unorderedBits := by
  rcases h with h | h <;> simp [comparePPWord, Num.feq, Num.flt, Num.fgt, h]

/-! ### Rounding (48_exchange_and_rounding.md R292) -/

theorem round_nearest (x d : Slot) : round x 0#2 d = roundNearest x d := rfl
theorem round_down (x d : Slot) : round x 1#2 d = Num.roundIntegral .down x d := rfl
theorem round_up (x d : Slot) : round x 2#2 d = Num.roundIntegral .up x d := rfl
theorem round_chop (x d : Slot) : round x 3#2 d = Num.roundIntegral .chop x d := rfl

/-! ### Several words stored (20_memory.md R53) -/

/-- Storing words in ascending order leaves everything of the state but the memory and the record at the ports. -/
theorem store16s_state (ws : List Word16) : ∀ (s : State) (ea : Addr),
    (store16s s ea ws).slots = s.slots ∧ (store16s s ea ws).top = s.top ∧ (store16s s ea ws).tw = s.tw
      ∧ (store16s s ea ws).cw = s.cw ∧ (store16s s ea ws).sw = s.sw ∧ (store16s s ea ws).lip = s.lip
      ∧ (store16s s ea ws).lop = s.lop ∧ (store16s s ea ws).ldp = s.ldp ∧ (store16s s ea ws).halted = s.halted
      ∧ (store16s s ea ws).report = s.report ∧ (store16s s ea ws).ax = s.ax ∧ (store16s s ea ws).port = s.port
      ∧ (store16s s ea ws).inputs = s.inputs ∧ (store16s s ea ws).draws = s.draws := by
  induction ws with
  | nil => intro s ea; simp [store16s]
  | cons w rest ih =>
    intro s ea
    simpa [store16s, store16] using ih (store16 s ea w) (ea + 2#32)

/-- It keeps the canonical form of memory. -/
theorem wf_store16s (ws : List Word16) : ∀ (s : State) (ea : Addr), s.mem.wf = true → (store16s s ea ws).mem.wf = true := by
  induction ws with
  | nil => intro s ea h; exact h
  | cons w rest ih =>
    intro s ea h
    exact ih _ _ (State.wf_busWrite s ea .w16 (w.setWidth 64) h)

/-! ### Inputs and the step -/

/-- The end of an instruction touches the record at the ports only. -/
theorem endInstruction_cases (s : State) :
    (s.halted = true ∧ s.endInstruction = s)
      ∨ (s.halted = false ∧ s.endInstruction = s.emit (.cycles (Config.cycles s.port.esc s.port.modrm))) := by
  unfold State.endInstruction
  cases s.halted <;> simp

/-- What an accepted instruction can do. -/
theorem accept_cases {p : Presented} {s t : State} (h : accept p s = .next t) :
    (s.halted = true ∧ t = s)
      ∨ (s.halted = false ∧ ∃ (i : Instr) (u : State), decode p.esc p.modrm = .ok i ∧ exec i (s.sample p) = .next u
        ∧ t = u.endInstruction) := by
  unfold accept at h
  cases hh : s.halted
  · right
    simp only [hh, Bool.false_eq_true, if_false] at h
    refine ⟨rfl, ?_⟩
    split at h
    · rename_i i hd
      cases he : exec i (s.sample p) with
      | next u =>
        rw [he] at h
        refine ⟨i, u, hd, he, ?_⟩
        simpa [finish] using h.symm
      | fault r => nomatch r
      | refused r => rw [he] at h; simp [finish] at h
    · simp at h
  · left
    simp only [hh, if_true] at h
    exact ⟨rfl, by simpa using h.symm⟩

/-- Everything a step can do: nothing, with no input; a `RESET`; an instruction ignored by a halted block; an instruction
executed. -/
theorem step_cases {s t : State} (h : step s = .next t) :
    (s.inputs = [] ∧ t = s)
      ∨ (∃ rest, s.inputs = .reset :: rest ∧ t = (s.setInputs rest).assertReset)
      ∨ (∃ p rest, s.inputs = .instr p :: rest ∧ s.halted = true ∧ t = s.setInputs rest)
      ∨ ∃ p rest i u, s.inputs = .instr p :: rest ∧ s.halted = false ∧ decode p.esc p.modrm = .ok i
        ∧ exec i ((s.setInputs rest).sample p) = .next u ∧ t = u.endInstruction := by
  unfold step at h
  split at h
  · rename_i hi
    left
    exact ⟨hi, by simpa using h.symm⟩
  · rename_i hd rest hi
    cases hd with
    | reset =>
      right; left
      exact ⟨rest, hi, by simpa [takeInput] using h.symm⟩
    | instr p =>
      rcases accept_cases h with ⟨hh, ht⟩ | ⟨hh, i, u, hdec, he, ht⟩
      · right; right; left
        exact ⟨p, rest, hi, hh, ht⟩
      · right; right; right
        exact ⟨p, rest, i, u, hi, hh, hdec, he, ht⟩

end Sys2Proof.Machine
end

