-- ==== Sys2Proof/Laws/Num.lean ====
section
/-! SUPPORT. What the shared steps of the numerics do, said once: the shift that rounds, and the patterns of the finite doubles. -/

namespace Sys2Proof.Machine

/-- A shift with rounding is within half a unit of the exact quotient, and at half a unit it is even (00_scope.md R17). -/
theorem Num.rneShift_spec (n k : Nat) :
    2 * distance n ((Num.rneShift n k <<< k : Nat) : Int) ≤ 1 <<< k
      ∧ (2 * distance n ((Num.rneShift n k <<< k : Nat) : Int) = 1 <<< k → Num.rneShift n k % 2 = 0) := by
  have hpos : 0 < 2 ^ k := Nat.two_pow_pos k
  have hdiv := Nat.div_add_mod n (2 ^ k)
  have hmod := Nat.mod_lt n hpos
  unfold Num.rneShift distance
  simp only [Nat.shiftRight_eq_div_pow, Nat.shiftLeft_eq, Nat.one_mul, Nat.mul_comm (n / 2 ^ k)]
  generalize n / 2 ^ k = q at *
  generalize n % 2 ^ k = r at *
  generalize 2 ^ k = b at *
  subst hdiv
  rw [show b * q + r - b * q = r by omega]
  split
  · rename_i h
    rw [Nat.add_mul, Nat.one_mul, Nat.mul_comm q b]
    push_cast
    constructor <;> omega
  · rename_i h
    rw [Nat.mul_comm q b]
    push_cast
    constructor <;> omega

/-- A shift with rounding of a smaller number is no larger. -/
theorem Num.rneShift_mono {n m : Nat} (k : Nat) (h : n ≤ m) : Num.rneShift n k ≤ Num.rneShift m k := by
  have hpos : 0 < 2 ^ k := Nat.two_pow_pos k
  have hn := Nat.div_add_mod n (2 ^ k)
  have hm := Nat.div_add_mod m (2 ^ k)
  have hq : n / 2 ^ k ≤ m / 2 ^ k := Nat.div_le_div_right h
  unfold Num.rneShift
  simp only [Nat.shiftRight_eq_div_pow, Nat.shiftLeft_eq, Nat.mul_comm _ (2 ^ k)]
  rw [show n - 2 ^ k * (n / 2 ^ k) = n % 2 ^ k by omega, show m - 2 ^ k * (m / 2 ^ k) = m % 2 ^ k by omega]
  rcases Nat.lt_or_eq_of_le hq with hlt | heq
  · split <;> split <;> omega
  · rw [heq] at hn ⊢
    split <;> split <;> omega

/-- The double with a sign and a pattern below that of infinity stands for the pattern's magnitude. -/
theorem Num.unpack64_of_pattern (neg : Bool) (p : Nat) (hp : p < 0x7FF0000000000000) :
    Num.unpack64 (BitVec.ofNat 64 ((if neg then 0x8000000000000000 else 0) + p)) = .fin neg (magOfPattern 52 p) := by
  have hmsb : (BitVec.ofNat 64 ((if neg then 0x8000000000000000 else 0) + p)).msb = neg := by
    cases neg
    · rw [BitVec.msb_eq_false_iff_two_mul_lt]; simp; omega
    · rw [BitVec.msb_eq_true_iff_two_mul_ge]; simp; omega
  have he : ((BitVec.ofNat 64 ((if neg then 0x8000000000000000 else 0) + p)).extractLsb' 52 11).toNat = p / 2 ^ 52 := by
    cases neg <;> simp [BitVec.extractLsb'_toNat, Nat.shiftRight_eq_div_pow] <;> omega
  have hf : ((BitVec.ofNat 64 ((if neg then 0x8000000000000000 else 0) + p)).extractLsb' 0 52).toNat = p % 2 ^ 52 := by
    cases neg
    all_goals simp [BitVec.extractLsb'_toNat]
    all_goals omega
  unfold Num.unpack64 Num.fieldValue magOfPattern
  rw [hmsb, he, hf, if_neg (by omega)]

/-- The same for a single. -/
theorem Num.unpack32_of_pattern (neg : Bool) (p : Nat) (hp : p < 0x7F800000) :
    Num.unpack32 (BitVec.ofNat 32 ((if neg then 0x80000000 else 0) + p)) = .fin neg (magOfPattern 23 p) := by
  have hmsb : (BitVec.ofNat 32 ((if neg then 0x80000000 else 0) + p)).msb = neg := by
    cases neg
    · rw [BitVec.msb_eq_false_iff_two_mul_lt]; simp; omega
    · rw [BitVec.msb_eq_true_iff_two_mul_ge]; simp; omega
  have he : ((BitVec.ofNat 32 ((if neg then 0x80000000 else 0) + p)).extractLsb' 23 8).toNat = p / 2 ^ 23 := by
    cases neg <;> simp [BitVec.extractLsb'_toNat, Nat.shiftRight_eq_div_pow] <;> omega
  have hf : ((BitVec.ofNat 32 ((if neg then 0x80000000 else 0) + p)).extractLsb' 0 23).toNat = p % 2 ^ 23 := by
    cases neg
    all_goals simp [BitVec.extractLsb'_toNat]
    all_goals omega
  unfold Num.unpack32 Num.fieldValue magOfPattern
  rw [hmsb, he, hf, if_neg (by omega)]

@[simp] theorem Num.unpack64_inf64 (neg : Bool) : Num.unpack64 (Num.inf64 neg) = .inf neg := by cases neg <;> decide +kernel
@[simp] theorem Num.unpack32_inf32 (neg : Bool) : Num.unpack32 (Num.inf32 neg) = .inf neg := by cases neg <;> decide +kernel

end Sys2Proof.Machine
end

