-- ==== Sys2Proof/Laws/PerInstr.lean ====
section
/-! SUPPORT. Per-instruction families (LAWS.json), one lemma per constructor. `EncodeForm`: the encoding of a well-formed
instruction starts with an escape byte, and the threshold test on its `modrm` says the instruction's own form. -/

namespace Sys2Proof.Laws

/-- Whether an instruction is a register form; an undefined pair is what its `modrm` says (30_encoding.md R73, R77). -/
def registerForm : Instr → Bool
  | .faddM32 _ => false
  | .fmulM32 _ => false
  | .fcomM32 _ => false
  | .fcompM32 _ => false
  | .fsubM32 _ => false
  | .fsubrM32 _ => false
  | .fdivM32 _ => false
  | .fdivrM32 _ => false
  | .faddStSti _ => true
  | .fmulStSti _ => true
  | .fcomSti _ => true
  | .fcompSti _ => true
  | .fsubStSti _ => true
  | .fsubrStSti _ => true
  | .fdivStSti _ => true
  | .fdivrStSti _ => true
  | .fldM32 _ => false
  | .fstM32 _ => false
  | .fstpM32 _ => false
  | .fldcwM16 _ => false
  | .fnstenvM14 _ => false
  | .fnstcwM16 _ => false
  | .fldSti _ => true
  | .fxchSti _ => true
  | .fld1 => true
  | .fldl2t => true
  | .fldl2e => true
  | .fldpi => true
  | .fldlg2 => true
  | .fldln2 => true
  | .fldz => true
  | .f2xm1 => true
  | .fyl2x => true
  | .frndint => true
  | .fnclex => true
  | .fninit => true
  | .fsetpm => true
  | .faddM64 _ => false
  | .fmulM64 _ => false
  | .fcomM64 _ => false
  | .fcompM64 _ => false
  | .fsubM64 _ => false
  | .fsubrM64 _ => false
  | .fdivM64 _ => false
  | .fdivrM64 _ => false
  | .faddStiSt _ => true
  | .fmulStiSt _ => true
  | .fsubrStiSt _ => true
  | .fsubStiSt _ => true
  | .fdivrStiSt _ => true
  | .fdivStiSt _ => true
  | .fldM64 _ => false
  | .fstM64 _ => false
  | .fstpM64 _ => false
  | .fnstswM16 _ => false
  | .faddpStiSt _ => true
  | .fmulpStiSt _ => true
  | .fcompp => true
  | .fsubrpStiSt _ => true
  | .fsubpStiSt _ => true
  | .fdivrpStiSt _ => true
  | .fdivpStiSt _ => true
  | .fildM64 _ => false
  | .fistpM64 _ => false
  | .fnstswAx => true
  | .undefined _ modrm => isReg modrm

/-- The two bytes of a pair's word (30_encoding.md R70). -/
theorem pairWord_esc : ∀ g modrm, (pairWord g modrm).extractLsb' 11 5 = 0b11011#5 := by decide +kernel

theorem pairWord_modrm : ∀ g modrm, (pairWord g modrm).extractLsb' 0 8 = modrm := by decide +kernel

/-- The threshold test is the test `mod = 3` (30_encoding.md R73). -/
theorem isReg_append : ∀ (a : BitVec 2) (b c : BitVec 3), isReg (a ++ b ++ c) = (a == 3#2) := by decide +kernel

namespace EncodeForm

/-- The statement of the family. -/
def Statement (i : Instr) : Prop :=
  i.WellFormed → (encode i).extractLsb' 11 5 = 0b11011#5 ∧ isReg ((encode i).extractLsb' 0 8) = registerForm i

theorem of_memWord (g b : BitVec 3) (m : AddrMode) (h : m.wf = true) :
    (memWord g b m).extractLsb' 11 5 = 0b11011#5 ∧ isReg ((memWord g b m).extractLsb' 0 8) = false := by
  refine ⟨pairWord_esc _ _, ?_⟩
  rw [memWord, pairWord_modrm, isReg_append]
  simpa [AddrMode.wf] using h

theorem of_regWord (g b c : BitVec 3) :
    (regWord g b c).extractLsb' 11 5 = 0b11011#5 ∧ isReg ((regWord g b c).extractLsb' 0 8) = true := by
  refine ⟨pairWord_esc _ _, ?_⟩
  rw [regWord, pairWord_modrm, isReg_append]
  rfl

theorem faddM32 (m : AddrMode) : Statement (.faddM32 m) := fun h => of_memWord _ _ m h
theorem fmulM32 (m : AddrMode) : Statement (.fmulM32 m) := fun h => of_memWord _ _ m h
theorem fcomM32 (m : AddrMode) : Statement (.fcomM32 m) := fun h => of_memWord _ _ m h
theorem fcompM32 (m : AddrMode) : Statement (.fcompM32 m) := fun h => of_memWord _ _ m h
theorem fsubM32 (m : AddrMode) : Statement (.fsubM32 m) := fun h => of_memWord _ _ m h
theorem fsubrM32 (m : AddrMode) : Statement (.fsubrM32 m) := fun h => of_memWord _ _ m h
theorem fdivM32 (m : AddrMode) : Statement (.fdivM32 m) := fun h => of_memWord _ _ m h
theorem fdivrM32 (m : AddrMode) : Statement (.fdivrM32 m) := fun h => of_memWord _ _ m h
theorem faddStSti (i : StackIndex) : Statement (.faddStSti i) := fun _ => of_regWord _ _ i
theorem fmulStSti (i : StackIndex) : Statement (.fmulStSti i) := fun _ => of_regWord _ _ i
theorem fcomSti (i : StackIndex) : Statement (.fcomSti i) := fun _ => of_regWord _ _ i
theorem fcompSti (i : StackIndex) : Statement (.fcompSti i) := fun _ => of_regWord _ _ i
theorem fsubStSti (i : StackIndex) : Statement (.fsubStSti i) := fun _ => of_regWord _ _ i
theorem fsubrStSti (i : StackIndex) : Statement (.fsubrStSti i) := fun _ => of_regWord _ _ i
theorem fdivStSti (i : StackIndex) : Statement (.fdivStSti i) := fun _ => of_regWord _ _ i
theorem fdivrStSti (i : StackIndex) : Statement (.fdivrStSti i) := fun _ => of_regWord _ _ i
theorem fldM32 (m : AddrMode) : Statement (.fldM32 m) := fun h => of_memWord _ _ m h
theorem fstM32 (m : AddrMode) : Statement (.fstM32 m) := fun h => of_memWord _ _ m h
theorem fstpM32 (m : AddrMode) : Statement (.fstpM32 m) := fun h => of_memWord _ _ m h
theorem fldcwM16 (m : AddrMode) : Statement (.fldcwM16 m) := fun h => of_memWord _ _ m h
theorem fnstenvM14 (m : AddrMode) : Statement (.fnstenvM14 m) := fun h => of_memWord _ _ m h
theorem fnstcwM16 (m : AddrMode) : Statement (.fnstcwM16 m) := fun h => of_memWord _ _ m h
theorem fldSti (i : StackIndex) : Statement (.fldSti i) := fun _ => of_regWord _ _ i
theorem fxchSti (i : StackIndex) : Statement (.fxchSti i) := fun _ => of_regWord _ _ i
theorem fld1 : Statement .fld1 := fun _ => of_regWord _ _ _
theorem fldl2t : Statement .fldl2t := fun _ => of_regWord _ _ _
theorem fldl2e : Statement .fldl2e := fun _ => of_regWord _ _ _
theorem fldpi : Statement .fldpi := fun _ => of_regWord _ _ _
theorem fldlg2 : Statement .fldlg2 := fun _ => of_regWord _ _ _
theorem fldln2 : Statement .fldln2 := fun _ => of_regWord _ _ _
theorem fldz : Statement .fldz := fun _ => of_regWord _ _ _
theorem f2xm1 : Statement .f2xm1 := fun _ => of_regWord _ _ _
theorem fyl2x : Statement .fyl2x := fun _ => of_regWord _ _ _
theorem frndint : Statement .frndint := fun _ => of_regWord _ _ _
theorem fnclex : Statement .fnclex := fun _ => of_regWord _ _ _
theorem fninit : Statement .fninit := fun _ => of_regWord _ _ _
theorem fsetpm : Statement .fsetpm := fun _ => of_regWord _ _ _
theorem faddM64 (m : AddrMode) : Statement (.faddM64 m) := fun h => of_memWord _ _ m h
theorem fmulM64 (m : AddrMode) : Statement (.fmulM64 m) := fun h => of_memWord _ _ m h
theorem fcomM64 (m : AddrMode) : Statement (.fcomM64 m) := fun h => of_memWord _ _ m h
theorem fcompM64 (m : AddrMode) : Statement (.fcompM64 m) := fun h => of_memWord _ _ m h
theorem fsubM64 (m : AddrMode) : Statement (.fsubM64 m) := fun h => of_memWord _ _ m h
theorem fsubrM64 (m : AddrMode) : Statement (.fsubrM64 m) := fun h => of_memWord _ _ m h
theorem fdivM64 (m : AddrMode) : Statement (.fdivM64 m) := fun h => of_memWord _ _ m h
theorem fdivrM64 (m : AddrMode) : Statement (.fdivrM64 m) := fun h => of_memWord _ _ m h
theorem faddStiSt (i : StackIndex) : Statement (.faddStiSt i) := fun _ => of_regWord _ _ i
theorem fmulStiSt (i : StackIndex) : Statement (.fmulStiSt i) := fun _ => of_regWord _ _ i
theorem fsubrStiSt (i : StackIndex) : Statement (.fsubrStiSt i) := fun _ => of_regWord _ _ i
theorem fsubStiSt (i : StackIndex) : Statement (.fsubStiSt i) := fun _ => of_regWord _ _ i
theorem fdivrStiSt (i : StackIndex) : Statement (.fdivrStiSt i) := fun _ => of_regWord _ _ i
theorem fdivStiSt (i : StackIndex) : Statement (.fdivStiSt i) := fun _ => of_regWord _ _ i
theorem fldM64 (m : AddrMode) : Statement (.fldM64 m) := fun h => of_memWord _ _ m h
theorem fstM64 (m : AddrMode) : Statement (.fstM64 m) := fun h => of_memWord _ _ m h
theorem fstpM64 (m : AddrMode) : Statement (.fstpM64 m) := fun h => of_memWord _ _ m h
theorem fnstswM16 (m : AddrMode) : Statement (.fnstswM16 m) := fun h => of_memWord _ _ m h
theorem faddpStiSt (i : StackIndex) : Statement (.faddpStiSt i) := fun _ => of_regWord _ _ i
theorem fmulpStiSt (i : StackIndex) : Statement (.fmulpStiSt i) := fun _ => of_regWord _ _ i
theorem fcompp : Statement .fcompp := fun _ => of_regWord _ _ _
theorem fsubrpStiSt (i : StackIndex) : Statement (.fsubrpStiSt i) := fun _ => of_regWord _ _ i
theorem fsubpStiSt (i : StackIndex) : Statement (.fsubpStiSt i) := fun _ => of_regWord _ _ i
theorem fdivrpStiSt (i : StackIndex) : Statement (.fdivrpStiSt i) := fun _ => of_regWord _ _ i
theorem fdivpStiSt (i : StackIndex) : Statement (.fdivpStiSt i) := fun _ => of_regWord _ _ i
theorem fildM64 (m : AddrMode) : Statement (.fildM64 m) := fun h => of_memWord _ _ m h
theorem fistpM64 (m : AddrMode) : Statement (.fistpM64 m) := fun h => of_memWord _ _ m h
theorem fnstswAx : Statement .fnstswAx := fun _ => of_regWord _ _ _
theorem undefined (g : BitVec 3) (modrm : Byte) : Statement (.undefined g modrm) :=
  fun _ => ⟨pairWord_esc g modrm, congrArg isReg (pairWord_modrm g modrm)⟩

end EncodeForm

end Sys2Proof.Laws
end

