-- ==== Sys2Proof/Tests/Slice0.lean ====
section
/-! SUPPORT. Tests of the model and, at the end, a witness for every statement that has hypotheses. The words are written out from
the encodings of 30_encoding.md R77 (spec/opcode_table.json); the expected results are the vectors of 95_test_vectors.md, named by
their numbers there. -/

namespace Sys2Proof.Tests

open Sys2Proof.Machine

/-! ## Well-formedness and decoding -/

/-- No term of the list is well-formed. -/
def allRefused (l : List Instr) : Bool := l.all fun i => !i.wf

/-- Every word decodes to its instruction and is its encoding. -/
def decodesAs (l : List (Word16 × Instr)) : Bool :=
  l.all fun p => decide (decodeWord p.1 = .ok p.2) && (encode p.2 == p.1) && p.2.wf

/-- Every word decodes to the undefined instruction of its own group and `modrm`. -/
def undefinedWords (l : List Word16) : Bool :=
  l.all fun w => decide (decodeWord w = .ok (.undefined (w.extractLsb' 8 3) (w.extractLsb' 0 8)))

/-- The addressing fields of a memory form never say register form (R73). -/
theorem test_wellFormed_refuses_register_mod : allRefused [
    .faddM32 ⟨3#2, 5#3⟩, .fmulM32 ⟨3#2, 5#3⟩, .fcomM32 ⟨3#2, 5#3⟩, .fcompM32 ⟨3#2, 5#3⟩, .fsubM32 ⟨3#2, 5#3⟩,
    .fsubrM32 ⟨3#2, 5#3⟩, .fdivM32 ⟨3#2, 5#3⟩, .fdivrM32 ⟨3#2, 5#3⟩, .fldM32 ⟨3#2, 5#3⟩, .fstM32 ⟨3#2, 5#3⟩,
    .fstpM32 ⟨3#2, 5#3⟩, .fldcwM16 ⟨3#2, 5#3⟩, .fnstenvM14 ⟨3#2, 5#3⟩, .fnstcwM16 ⟨3#2, 5#3⟩, .faddM64 ⟨3#2, 5#3⟩,
    .fmulM64 ⟨3#2, 5#3⟩, .fcomM64 ⟨3#2, 5#3⟩, .fcompM64 ⟨3#2, 5#3⟩, .fsubM64 ⟨3#2, 5#3⟩, .fsubrM64 ⟨3#2, 5#3⟩,
    .fdivM64 ⟨3#2, 5#3⟩, .fdivrM64 ⟨3#2, 5#3⟩, .fldM64 ⟨3#2, 5#3⟩, .fstM64 ⟨3#2, 5#3⟩, .fstpM64 ⟨3#2, 5#3⟩,
    .fnstswM16 ⟨3#2, 5#3⟩, .fildM64 ⟨3#2, 5#3⟩, .fistpM64 ⟨3#2, 5#3⟩] = true := by decide

/-- A pair that a row takes is not an undefined instruction (R78). -/
theorem test_wellFormed_refuses_defined_pairs : allRefused [.undefined 0#3 0x00#8, .undefined 1#3 0xE8#8, .undefined 3#3 0xE3#8,
    .undefined 4#3 0xFF#8, .undefined 6#3 0xD9#8, .undefined 7#3 0xE0#8] = true := by decide +kernel

theorem test_decode_d8 : decodesAs [
    (0b1101100000000101#16, (.faddM32 ⟨0#2, 5#3⟩)),
    (0b1101100001001110#16, (.fmulM32 ⟨1#2, 6#3⟩)),
    (0b1101100010010111#16, (.fcomM32 ⟨2#2, 7#3⟩)),
    (0b1101100000011000#16, (.fcompM32 ⟨0#2, 0#3⟩)),
    (0b1101100001100001#16, (.fsubM32 ⟨1#2, 1#3⟩)),
    (0b1101100010101010#16, (.fsubrM32 ⟨2#2, 2#3⟩)),
    (0b1101100000110011#16, (.fdivM32 ⟨0#2, 3#3⟩)),
    (0b1101100001111100#16, (.fdivrM32 ⟨1#2, 4#3⟩)),
    (0b1101100011000001#16, (.faddStSti 1#3)),
    (0b1101100011001100#16, (.fmulStSti 4#3)),
    (0b1101100011010111#16, (.fcomSti 7#3)),
    (0b1101100011011010#16, (.fcompSti 2#3)),
    (0b1101100011100101#16, (.fsubStSti 5#3)),
    (0b1101100011101000#16, (.fsubrStSti 0#3)),
    (0b1101100011110011#16, (.fdivStSti 3#3)),
    (0b1101100011111110#16, (.fdivrStSti 6#3))] = true := by decide +kernel

theorem test_decode_d9 : decodesAs [
    (0b1101100101000101#16, (.fldM32 ⟨1#2, 5#3⟩)),
    (0b1101100110010110#16, (.fstM32 ⟨2#2, 6#3⟩)),
    (0b1101100100011111#16, (.fstpM32 ⟨0#2, 7#3⟩)),
    (0b1101100101101000#16, (.fldcwM16 ⟨1#2, 0#3⟩)),
    (0b1101100110110001#16, (.fnstenvM14 ⟨2#2, 1#3⟩)),
    (0b1101100100111010#16, (.fnstcwM16 ⟨0#2, 2#3⟩)),
    (0b1101100111000011#16, (.fldSti 3#3)),
    (0b1101100111001110#16, (.fxchSti 6#3)),
    (0b1101100111101000#16, .fld1),
    (0b1101100111101001#16, .fldl2t),
    (0b1101100111101010#16, .fldl2e),
    (0b1101100111101011#16, .fldpi),
    (0b1101100111101100#16, .fldlg2),
    (0b1101100111101101#16, .fldln2),
    (0b1101100111101110#16, .fldz),
    (0b1101100111110000#16, .f2xm1),
    (0b1101100111110001#16, .fyl2x),
    (0b1101100111111100#16, .frndint)] = true := by decide +kernel

theorem test_decode_db : decodesAs [
    (0b1101101111100010#16, .fnclex),
    (0b1101101111100011#16, .fninit),
    (0b1101101111100100#16, .fsetpm)] = true := by decide +kernel

theorem test_decode_dc : decodesAs [
    (0b1101110001000010#16, (.faddM64 ⟨1#2, 2#3⟩)),
    (0b1101110010001011#16, (.fmulM64 ⟨2#2, 3#3⟩)),
    (0b1101110000010100#16, (.fcomM64 ⟨0#2, 4#3⟩)),
    (0b1101110001011101#16, (.fcompM64 ⟨1#2, 5#3⟩)),
    (0b1101110010100110#16, (.fsubM64 ⟨2#2, 6#3⟩)),
    (0b1101110000101111#16, (.fsubrM64 ⟨0#2, 7#3⟩)),
    (0b1101110001110000#16, (.fdivM64 ⟨1#2, 0#3⟩)),
    (0b1101110010111001#16, (.fdivrM64 ⟨2#2, 1#3⟩)),
    (0b1101110011000000#16, (.faddStiSt 0#3)),
    (0b1101110011001011#16, (.fmulStiSt 3#3)),
    (0b1101110011100110#16, (.fsubrStiSt 6#3)),
    (0b1101110011101001#16, (.fsubStiSt 1#3)),
    (0b1101110011110100#16, (.fdivrStiSt 4#3)),
    (0b1101110011111111#16, (.fdivStiSt 7#3))] = true := by decide +kernel

theorem test_decode_dd : decodesAs [
    (0b1101110100000000#16, (.fldM64 ⟨0#2, 0#3⟩)),
    (0b1101110101010001#16, (.fstM64 ⟨1#2, 1#3⟩)),
    (0b1101110110011010#16, (.fstpM64 ⟨2#2, 2#3⟩)),
    (0b1101110100111011#16, (.fnstswM16 ⟨0#2, 3#3⟩))] = true := by decide +kernel

theorem test_decode_de : decodesAs [
    (0b1101111011000110#16, (.faddpStiSt 6#3)),
    (0b1101111011001001#16, (.fmulpStiSt 1#3)),
    (0b1101111011011001#16, .fcompp),
    (0b1101111011100111#16, (.fsubrpStiSt 7#3)),
    (0b1101111011101010#16, (.fsubpStiSt 2#3)),
    (0b1101111011110101#16, (.fdivrpStiSt 5#3)),
    (0b1101111011111000#16, (.fdivpStiSt 0#3))] = true := by decide +kernel

theorem test_decode_df : decodesAs [
    (0b1101111110101011#16, (.fildM64 ⟨2#2, 3#3⟩)),
    (0b1101111100111100#16, (.fistpM64 ⟨0#2, 4#3⟩)),
    (0b1101111111100000#16, .fnstswAx)] = true := by decide +kernel

/-- Vectors A5 to A9, A11 to A14, A16, A17, T8, X7, E13. -/
theorem test_decode_undefined : undefinedWords [0xD908#16, 0xD948#16, 0xD988#16, 0xD920#16, 0xD9D0#16, 0xD9EF#16, 0xD9E0#16, 0xD9E7#16,
    0xD9F2#16, 0xD9FB#16, 0xD9FD#16, 0xD9FF#16, 0xDA00#16, 0xDAE9#16, 0xDAFF#16, 0xDB28#16, 0xDBE0#16, 0xDBE1#16, 0xDBE5#16, 0xDCD0#16,
    0xDCD8#16, 0xDD20#16, 0xDDC0#16, 0xDE00#16, 0xDED8#16, 0xDEDA#16, 0xDF00#16, 0xDFE1#16] = true := by decide +kernel

/-- The number of defined pairs in the groups D8 to DF: 256, 170, 0, 3, 240, 96, 49, 49 (R78). -/
theorem test_defined_pairs_by_group :
    [0#3, 1#3, 2#3, 3#3, 4#3, 5#3, 6#3, 7#3].map (fun g => ((List.range 256).filter fun n =>
      decide (decodeGroup g (BitVec.ofNat 8 n) ≠ .undefined g (BitVec.ofNat 8 n))).length) = [256, 170, 0, 3, 240, 96, 49, 49] := by
  decide +kernel

/-- The table numbers one 16-bit word with `esc` in bits 15:8 (R87); a word that is no escape is refused. -/
theorem test_decodeTableWord : decodeTableWord 16 0xD8C1 = some (.faddStSti 1#3) ∧ decodeTableWord 16 0xC1D8 = none := by decide

/-! ## One step on a small state -/

/-- `top = 6`, `ST(0) = a`, `ST(1) = b`, every tag Valid, `v` in the eight bytes at `ea = 0x1000`, `pc = 0x20`. -/
def small (a b : Slot) (v : Nat) : State :=
  { State.reset with
    slots := #v[0x10#64, 0x11#64, 0x12#64, 0x13#64, 0x14#64, 0x15#64, a, b], top := 6#3, tw := 0x0000#16,
    mem := Memory.writeBytes [] 0x1000#32 8 v, port := ⟨0#8, 0#8, 0x1000#32, 0x20#32⟩ }

/-- The state an outcome goes on with. -/
def after : Result → State
  | .next s => s
  | .fault _ => State.reset
  | .refused _ => State.reset

/-- One step with the word `w` presented. -/
def run (w : Word16) (s : State) : State := after (step (s.presentNext w))

/-- Every row (word, `ST(0)`, memory, new `ST(0)`) holds, with nothing popped and no flag written. -/
def memRows (l : List (Word16 × Slot × Nat × Slot)) : Bool :=
  l.all fun r => let t := run r.1 (small r.2.1 0x99#64 r.2.2.1)
    (t.st 0#3 == r.2.2.2) && (t.st 1#3 == 0x99#64) && (t.top == 6#3) && (t.sw == 0#16) && !t.halted

/-- M1 to M6. -/
theorem test_short_memory_arithmetic : memRows [(0xD805#16, 0x3FF8000000000000#64, 0x3F800000, 0x4004000000000000#64),
    (0xD80D#16, 0x3FF8000000000000#64, 0x40000000, 0x4008000000000000#64), (0xD825#16, 0x4008000000000000#64, 0x3F800000, 0x4000000000000000#64),
    (0xD82D#16, 0x4008000000000000#64, 0x3F800000, 0xC000000000000000#64), (0xD835#16, 0x4008000000000000#64, 0x40000000, 0x3FF8000000000000#64),
    (0xD83D#16, 0x4010000000000000#64, 0x40000000, 0x3FE0000000000000#64)] = true := by decide +kernel

/-- M9, M10, M12, M14; 1.5 * 2, 3 - 1, 1 - 3, 2 / 4 by hand. -/
theorem test_long_memory_arithmetic : memRows [(0xDC05#16, 0x3FB999999999999A#64, 0x3FC999999999999A, 0x3FD3333333333334#64),
    (0xDC35#16, 0x3FF0000000000000#64, 0x4008000000000000, 0x3FD5555555555555#64),
    (0xDC05#16, 0x7FEFFFFFFFFFFFFF#64, 0x7FEFFFFFFFFFFFFF, 0x7FF0000000000000#64), (0xDC05#16, 0x0000000000000000#64, 0x8000000000000000, 0#64),
    (0xDC0D#16, 0x3FF8000000000000#64, 0x4000000000000000, 0x4008000000000000#64),
    (0xDC25#16, 0x4008000000000000#64, 0x3FF0000000000000, 0x4000000000000000#64),
    (0xDC2D#16, 0x4008000000000000#64, 0x3FF0000000000000, 0xC000000000000000#64),
    (0xDC3D#16, 0x4010000000000000#64, 0x4000000000000000, 0x3FE0000000000000#64)] = true := by decide +kernel

/-- Every row (word, `ST(0)`, `ST(1)`, new `ST(0)`, new `ST(1)`) holds, with nothing popped. -/
def regRows (l : List (Word16 × Slot × Slot × Slot × Slot)) : Bool :=
  l.all fun r => let t := run r.1 (small r.2.1 r.2.2.1 0)
    (t.st 0#3 == r.2.2.2.1) && (t.st 1#3 == r.2.2.2.2) && (t.top == 6#3) && (t.sw == 0#16) && (t.tw == 0#16) && !t.halted

/-- M15, M16, M18, M19; 3 - 1 and 2 / 4 by hand. -/
theorem test_top_register_arithmetic : regRows [
    (0xD8C1#16, 0x3FF8000000000000#64, 0x3FF0000000000000#64, 0x4004000000000000#64, 0x3FF0000000000000#64),
    (0xD8C8#16, 0x4008000000000000#64, 0x11#64, 0x4022000000000000#64, 0x11#64),
    (0xD8E1#16, 0x4008000000000000#64, 0x3FF0000000000000#64, 0x4000000000000000#64, 0x3FF0000000000000#64),
    (0xD8E9#16, 0x4008000000000000#64, 0x3FF0000000000000#64, 0xC000000000000000#64, 0x3FF0000000000000#64),
    (0xD8F1#16, 0x4008000000000000#64, 0x4000000000000000#64, 0x3FF8000000000000#64, 0x4000000000000000#64),
    (0xD8F9#16, 0x4010000000000000#64, 0x4000000000000000#64, 0x3FE0000000000000#64, 0x4000000000000000#64)] = true := by decide +kernel

/-- M23 to M27; 2 * 1.5 by hand. -/
theorem test_indexed_register_arithmetic : regRows [
    (0xDCC1#16, 0x3FF0000000000000#64, 0x3FF8000000000000#64, 0x3FF0000000000000#64, 0x4004000000000000#64),
    (0xDCC9#16, 0x4000000000000000#64, 0x3FF8000000000000#64, 0x4000000000000000#64, 0x4008000000000000#64),
    (0xDCE9#16, 0x3FF0000000000000#64, 0x4008000000000000#64, 0x3FF0000000000000#64, 0x4000000000000000#64),
    (0xDCE1#16, 0x3FF0000000000000#64, 0x4008000000000000#64, 0x3FF0000000000000#64, 0xC000000000000000#64),
    (0xDCF9#16, 0x4000000000000000#64, 0x4008000000000000#64, 0x4000000000000000#64, 0x3FF8000000000000#64),
    (0xDCF1#16, 0x4000000000000000#64, 0x4010000000000000#64, 0x4000000000000000#64, 0x3FE0000000000000#64)] = true := by decide +kernel

/-- Every row (word, `ST(0)`, `ST(1)`, slot 7 after) holds, with one pop: `top = 7`, slot 6 as it was, its tag Empty. -/
def popRows (l : List (Word16 × Slot × Slot × Slot)) : Bool :=
  l.all fun r => let t := run r.1 (small r.2.1 r.2.2.1 0)
    (t.slot 7#3 == r.2.2.2) && (t.slot 6#3 == r.2.1) && (t.top == 7#3) && (t.sw == 0#16) && (t.tw == 0x3000#16) && !t.halted

/-- M29, M31 to M35. -/
theorem test_pop_arithmetic : popRows [(0xDEC1#16, 0x3FF0000000000000#64, 0x3FF8000000000000#64, 0x4004000000000000#64),
    (0xDEE9#16, 0x3FF0000000000000#64, 0x4008000000000000#64, 0x4000000000000000#64),
    (0xDEE1#16, 0x3FF0000000000000#64, 0x4008000000000000#64, 0xC000000000000000#64),
    (0xDEC9#16, 0x4000000000000000#64, 0x3FF8000000000000#64, 0x4008000000000000#64),
    (0xDEF9#16, 0x4000000000000000#64, 0x4008000000000000#64, 0x3FF8000000000000#64),
    (0xDEF1#16, 0x4000000000000000#64, 0x4010000000000000#64, 0x3FE0000000000000#64)] = true := by decide +kernel

/-- M36 to M39, M41, M42: the zero divisor of a masked pop divide. -/
theorem test_masked_pop_divide : popRows [(0xDEF9#16, 0x0000000000000000#64, 0x3FF0000000000000#64, 0x7FF0000000000000#64),
    (0xDEF9#16, 0x8000000000000000#64, 0x3FF0000000000000#64, 0xFFF0000000000000#64),
    (0xDEF9#16, 0x0000000000000000#64, 0xBFF0000000000000#64, 0xFFF0000000000000#64), (0xDEF9#16, 0#64, 0#64, 0x7FF0000000000000#64),
    (0xDEF1#16, 0x3FF0000000000000#64, 0x8000000000000000#64, 0xFFF0000000000000#64), (0xDEF1#16, 0#64, 0x4000000000000000#64, 0#64)] = true := by
  decide +kernel

/-- M40: with `CW = 0x037B` the slot takes the draw, and everything else is as with a mask. -/
theorem test_unmasked_pop_divide :
    let t := run 0xDEF9#16 { small 0#64 0x3FF0000000000000#64 0 with cw := 0x037B#16 }
    t.slot 7#3 = Config.draw64 0 ∧ t.top = 7#3 ∧ t.tw = 0x3000#16 ∧ t.sw = 0#16 ∧ t.halted = false := by
  exact ⟨rfl, by decide +kernel, by decide +kernel, by decide +kernel, by decide +kernel⟩

/-- Every row (word, `ST(0)`, `ST(1)`, memory, reads made) ends in the class 2 fatal with nothing written. -/
def zeroDivideRows (l : List (Word16 × Slot × Slot × Nat × List PortEvent)) : Bool :=
  l.all fun r => let s := small r.2.1 r.2.2.1 r.2.2.2.1
    let t := run r.1 s
    t.halted && (t.report == some (.unimplementedException .zeroDivide 0x20#32)) && (t.slots == s.slots) && (t.top == 6#3) && (t.sw == 0#16)
      && (t.tw == 0#16) && (t.outputs == r.2.2.2.2 ++ [.fatal (.unimplementedException .zeroDivide 0x20#32)])

/-- M7, M8, M11, M20, M22, M28, F6. -/
theorem test_zero_divide_fatal : zeroDivideRows [
    (0xD835#16, 0x4008000000000000#64, 0#64, 0x80000000, [.memRead 0x1000#32 .w32]),
    (0xD83D#16, 0x8000000000000000#64, 0#64, 0x3F800000, [.memRead 0x1000#32 .w32]),
    (0xDC35#16, 0x3FF0000000000000#64, 0#64, 0, [.memRead 0x1000#32 .w64]), (0xD8F1#16, 0x3FF0000000000000#64, 0#64, 0, []),
    (0xD8F9#16, 0x8000000000000000#64, 0x3FF0000000000000#64, 0, []), (0xDCF9#16, 0#64, 0x4008000000000000#64, 0, [])] = true := by
  decide +kernel

/-- M13: infinity less infinity is some NaN, and no flag is raised. -/
theorem test_invalid_is_quiet :
    Num.fsub 0x7FF0000000000000#64 0x7FF0000000000000#64 0x0#64 = 0x7FF0000000000001#64 ∧
      (run 0xDC25#16 (small 0x7FF0000000000000#64 0#64 0x7FF0000000000000)).sw = 0#16 := by decide +kernel

/-- Every row (word, `SW` before, `ST(0)`, `ST(1)`, memory, `SW` after, `top` after, `TW` after) holds. -/
def compareRows (l : List (Word16 × Word16 × Slot × Slot × Nat × Word16 × StackIndex × Word16)) : Bool :=
  l.all fun (w, sw, a, b, v, sw', top, tw) => let t := run w { small a b v with sw := sw }
    (t.sw == sw') && (t.top == top) && (t.tw == tw) && (t.slot 6#3 == a) && (t.slot 7#3 == b)

/-- Q1 to Q11, Q13. -/
theorem test_compare : compareRows [(0xD815#16, 0#16, 0x3FF0000000000000#64, 0#64, 0x40000000, 0x0100#16, 6#3, 0#16),
    (0xD815#16, 0#16, 0x4008000000000000#64, 0#64, 0x40000000, 0#16, 6#3, 0#16),
    (0xD815#16, 0xFFFF#16, 0x4008000000000000#64, 0#64, 0x40000000, 0xBAFF#16, 6#3, 0#16),
    (0xD81D#16, 0#16, 0x3FF0000000000000#64, 0#64, 0x3F800000, 0x4000#16, 7#3, 0x3000#16),
    (0xDC15#16, 0#16, 0x8000000000000000#64, 0#64, 0, 0x4000#16, 6#3, 0#16),
    (0xDC15#16, 0#16, 0x7FF8000000000000#64, 0#64, 0x3FF0000000000000, 0#16, 6#3, 0#16),
    (0xDC1D#16, 0#16, 0x4000000000000000#64, 0#64, 0x4008000000000000, 0x0100#16, 7#3, 0x3000#16),
    (0xD8D0#16, 0#16, 0x4014000000000000#64, 0#64, 0, 0x4000#16, 6#3, 0#16),
    (0xD8D1#16, 0#16, 0xFFF0000000000000#64, 0x7FF0000000000000#64, 0, 0x0100#16, 6#3, 0#16),
    (0xD8D9#16, 0#16, 0x3FF0000000000000#64, 0x3FF0000000000000#64, 0, 0x4000#16, 7#3, 0x3000#16)] = true := by decide +kernel

/-- Q14 to Q16, Q15 from a status word of all ones. -/
theorem test_fcompp : compareRows [(0xDED9#16, 0#16, 0x3FF0000000000000#64, 0x4000000000000000#64, 0, 0x0100#16, 0#3, 0xF000#16),
    (0xDED9#16, 0xFFFF#16, 0x4000000000000000#64, 0x3FF0000000000000#64, 0, 0xBAFF#16, 0#3, 0xF000#16),
    (0xDED9#16, 0#16, 0#64, 0#64, 0, 0x4000#16, 0#3, 0xF000#16)] = true := by decide +kernel

/-- Q17: an unordered pair takes the three open bits, the other status bits and the pops are as ever. -/
theorem test_fcompp_unordered :
    comparePPWord 0x0200#16 0x7FF8000000000000#64 0x3FF0000000000000#64 = 0x0200#16 ||| unorderedBits
      ∧ (run 0xDED9#16 (small 0x7FF8000000000000#64 0x3FF0000000000000#64 0)).top = 0#3 := by
  refine ⟨?_, by decide +kernel⟩
  have h1 : Num.fgt 0x7FF8000000000000#64 0x3FF0000000000000#64 = false := by decide +kernel
  have h2 : Num.flt 0x7FF8000000000000#64 0x3FF0000000000000#64 = false := by decide +kernel
  have h3 : Num.feq 0x7FF8000000000000#64 0x3FF0000000000000#64 = false := by decide +kernel
  simp [comparePPWord, h1, h2, h3, clearCC]

/-- Every row (word, memory, pushed value) holds: `top = 5`, the tags as they were. -/
def loadRows (l : List (Word16 × Nat × Slot)) : Bool :=
  l.all fun r => let t := run r.1 (small 0xA#64 0xB#64 r.2.1)
    (t.st 0#3 == r.2.2) && (t.top == 5#3) && (t.tw == 0#16) && (t.sw == 0#16) && (t.st 1#3 == 0xA#64) && (t.st 2#3 == 0xB#64)

/-- L1 to L12. -/
theorem test_loads : loadRows [(0xD905#16, 0x3FC00000, 0x3FF8000000000000#64), (0xD905#16, 0x80000000, 0x8000000000000000#64),
    (0xD905#16, 0xFF800000, 0xFFF0000000000000#64), (0xD905#16, 0x00000001, 0x36A0000000000000#64),
    (0xD905#16, 0x3DCCCCCD, 0x3FB99999A0000000#64), (0xDD05#16, 0x7FF0000000000001, 0x7FF0000000000001#64),
    (0xDF2D#16, 0xFFFFFFFFFFFFFFFD, 0xC008000000000000#64), (0xDF2D#16, 0, 0#64), (0xDF2D#16, 0x8000000000000000, 0xC3E0000000000000#64),
    (0xDF2D#16, 0x7FFFFFFFFFFFFFFF, 0x43E0000000000000#64), (0xDF2D#16, 0x0020000000000001, 0x4340000000000000#64),
    (0xDF2D#16, 0x0020000000000003, 0x4340000000000002#64)] = true := by decide +kernel

/-- L13 to L15 and T1 to T7. -/
theorem test_register_and_constant_loads : loadRows [(0xD9C1#16, 0, 0xB#64), (0xD9C0#16, 0, 0xA#64), (0xD9C7#16, 0, 0x15#64),
    (0xD9E8#16, 0, 0x3FF0000000000000#64), (0xD9E9#16, 0, 0x400A934F0979A371#64), (0xD9EA#16, 0, 0x3FF71547652B82FE#64),
    (0xD9EB#16, 0, 0x400921FB54442D18#64), (0xD9EC#16, 0, 0x3FD34413509F79FF#64), (0xD9ED#16, 0, 0x3FE62E42FEFA39EF#64),
    (0xD9EE#16, 0, 0x0000000000000000#64)] = true := by decide +kernel

/-- Every row (word, `CW`, `ST(0)`, width, value written, `top` after) holds; the slot keeps its value. -/
def storeRows (l : List (Word16 × Word16 × Slot × AccessWidth × BitVec 64 × StackIndex)) : Bool :=
  l.all fun (w, cw, a, width, v, top) => let t := run w { small a 0xB#64 0xFFFFFFFFFFFFFFFF with cw := cw }
    (t.busValue 0x1000#32 width == v) && (t.outputs.head? == some (.memWrite 0x1000#32 width v)) && (t.top == top) && (t.slot 6#3 == a)
      && (t.sw == 0#16) && (t.tw == if top = 7#3 then 0x3000#16 else 0#16)

/-- S6, L16 to L23, E3, E4. -/
theorem test_stores : storeRows [(0xD91D#16, 0x037F#16, 0x3FF8000000000000#64, .w32, 0x3FC00000#64, 7#3),
    (0xD915#16, 0x037F#16, 0x3FB999999999999A#64, .w32, 0x3DCCCCCD#64, 6#3), (0xD915#16, 0x037F#16, 0x48078287F49C4A1D#64, .w32, 0x7F800000#64, 6#3),
    (0xD915#16, 0x037F#16, 0x366244CE242C5561#64, .w32, 0#64, 6#3), (0xD915#16, 0x0F7F#16, 0x3FF0000010000000#64, .w32, 0x3F800000#64, 6#3),
    (0xD915#16, 0x037F#16, 0x3FF0000030000000#64, .w32, 0x3F800002#64, 6#3), (0xD915#16, 0x037F#16, 0x8000000000000000#64, .w32, 0x80000000#64, 6#3),
    (0xDD15#16, 0x037F#16, 0x7FF0000000000000#64, .w64, 0x7FF0000000000000#64, 6#3),
    (0xDD1D#16, 0x037F#16, 0x4004000000000000#64, .w64, 0x4004000000000000#64, 7#3),
    (0xD93D#16, 0x037F#16, 0xA#64, .w16, 0x037F#64, 6#3), (0xDD3D#16, 0x037F#16, 0xA#64, .w16, 0x3000#64, 6#3)] = true := by decide +kernel

/-- L24 to L30, L33, L34. -/
theorem test_integer_store : storeRows [(0xDF3D#16, 0x037F#16, 0x4004000000000000#64, .w64, 0x3#64, 7#3),
    (0xDF3D#16, 0x077F#16, 0x4004000000000000#64, .w64, 0x2#64, 7#3), (0xDF3D#16, 0x0B7F#16, 0x4004000000000000#64, .w64, 0x3#64, 7#3),
    (0xDF3D#16, 0x0F7F#16, 0xC004000000000000#64, .w64, 0xFFFFFFFFFFFFFFFE#64, 7#3),
    (0xDF3D#16, 0x037F#16, 0xC004000000000000#64, .w64, 0xFFFFFFFFFFFFFFFE#64, 7#3),
    (0xDF3D#16, 0x077F#16, 0xC004000000000000#64, .w64, 0xFFFFFFFFFFFFFFFD#64, 7#3),
    (0xDF3D#16, 0x0B7F#16, 0xBFD0000000000000#64, .w64, 0#64, 7#3), (0xDF3D#16, 0x0F7F#16, 0xC3E0000000000000#64, .w64, 0x8000000000000000#64, 7#3),
    (0xDF3D#16, 0x0F7F#16, 0x43DFFFFFFFFFFFFF#64, .w64, 0x7FFFFFFFFFFFFC00#64, 7#3)] = true := by decide +kernel

/-- L32: 2^63 does not fit, and the draw after the rounding's is stored. -/
theorem test_integer_store_out_of_range :
    Num.f64ToI64 0x43E0000000000000#64 0x123#64 = 0x123#64 ∧ Num.f64ToI64 0x7FF0000000000000#64 0x123#64 = 0x123#64 := by decide +kernel

/-- X1 and X3, over the open functions. -/
theorem test_transcendentals :
    (run 0xD9F0#16 (small 0xA#64 0xB#64 0)).st 0#3 = Config.fn2xm1 0xA#64 ∧ (run 0xD9F0#16 (small 0xA#64 0xB#64 0)).top = 6#3
      ∧ (run 0xD9F1#16 (small 0xA#64 0xB#64 0)).slot 7#3 = Num.fmul 0xB#64 (Config.fnLog2 0xA#64) (Config.draw64 0)
      ∧ (run 0xD9F1#16 (small 0xA#64 0xB#64 0)).top = 7#3 ∧ (run 0xD9F1#16 (small 0xA#64 0xB#64 0)).tw = 0x3000#16 :=
  ⟨rfl, rfl, rfl, rfl, rfl⟩

/-- E1, E2. -/
theorem test_fldcw : (run 0xD92D#16 (small 0#64 0#64 0x0F7F)).cw = 0x0F7F#16 ∧ (run 0xD92D#16 (small 0#64 0#64 0xFFFF)).cw = 0xFFFF#16 := by
  decide +kernel

/-- E8: the words of the environment image. -/
theorem test_fnstenv :
    let t := run 0xD935#16 { small 0#64 0#64 0 with cw := 0x1234#16, sw := 0x7800#16, tw := 0x00FF#16, lip := 0x000ABCDE#32, lop := 0xFFFF#16,
                                                    ldp := 0x00012345#32 }
    [0x1000#32, 0x1002#32, 0x1004#32, 0x1006#32, 0x1008#32, 0x100A#32, 0x100C#32, 0x100E#32].map (fun a => t.busValue a .w16)
      = [0x1234#64, 0x7800#64, 0x00FF#64, 0xBCDE#64, 0x57FF#64, 0x2345#64, 0x000A#64, 0#64] ∧ t.sw = 0x7800#16 ∧ t.top = 6#3 := by
  decide +kernel

/-- E6, E5: the image of the status word. -/
theorem test_fnstsw : (run 0xDFE0#16 { small 0#64 0#64 0 with sw := 0x0100#16, top := 7#3 }).ax = 0x3900#16
    ∧ (run 0xDD3D#16 { small 0#64 0#64 0 with sw := 0xFFFF#16, top := 0#3 }).busValue 0x1000#32 .w16 = 0xC7FF#64 := by decide +kernel

/-- S3, E9. -/
theorem test_fninit :
    let t := run 0xDBE3#16 { small 1#64 2#64 0 with top := 3#3, cw := 0x0F7F#16, sw := 0x4100#16, tw := 0x00C0#16, lip := 0x12345#32 }
    t.cw = 0x037F#16 ∧ t.sw = 0#16 ∧ t.tw = 0xFFFF#16 ∧ t.top = 3#3 ∧ t.lip = 0#32 ∧ t.slot 6#3 = 1#64 := by decide +kernel

/-- E10, E11. -/
theorem test_fnclex : (run 0xDBE2#16 { small 0#64 0#64 0 with sw := 0xC1BF#16 }).sw = 0xC100#16
    ∧ (run 0xDBE2#16 { small 0#64 0#64 0 with sw := 0x4500#16 }).sw = 0x4500#16 := by decide +kernel

/-- E12: defined, and no fatal. -/
theorem test_fsetpm : (run 0xDBE4#16 (small 1#64 2#64 0)).halted = false ∧ (run 0xDBE4#16 (small 1#64 2#64 0)).slots = (small 1#64 2#64 0).slots := by
  decide +kernel

/-- H1: `top = 2`, the values of slots 2 and 5 change places and the tags stay. -/
theorem test_fxch :
    let t := run 0xD9CB#16 { small 0#64 0#64 0 with top := 2#3, tw := 0x0C00#16 }
    t.slot 2#3 = 0x15#64 ∧ t.slot 5#3 = 0x12#64 ∧ t.tw = 0x0C00#16 ∧ t.slot 3#3 = 0x13#64 := by decide +kernel

/-- Every row (`CW`, `ST(0)` before and after) of FRNDINT holds. -/
def roundRows (l : List (Word16 × Slot × Slot)) : Bool :=
  l.all fun (cw, a, b) => let t := run 0xD9FC#16 { small a 0xB#64 0 with cw := cw }
    (t.st 0#3 == b) && (t.top == 6#3) && (t.sw == 0#16) && (t.tw == 0#16)

/-- H5, H6, H8, H10. -/
theorem test_frndint : roundRows [(0x037F#16, 0xC004000000000000#64, 0xC000000000000000#64), (0x077F#16, 0xC004000000000000#64, 0xC008000000000000#64),
    (0x037F#16, 0xBFD0000000000000#64, 0#64), (0x0B7F#16, 0xBFD0000000000000#64, 0x8000000000000000#64),
    (0x0F7F#16, 0xBFD0000000000000#64, 0x8000000000000000#64), (0x037F#16, 0x3FDFFFFFFFFFFFFF#64, 0x3FF0000000000000#64),
    (0x037F#16, 0x4330000000000001#64, 0x4330000000000002#64), (0x0B7F#16, 0x4330000000000001#64, 0x4330000000000001#64)] = true := by
  decide +kernel

/-- F1, F2: the report of an undefined encoding, in register and in memory form, and no bus access. -/
theorem test_undefined_fatal :
    (run 0xD9E0#16 (small 1#64 2#64 0)).outputs = [.fatal (.unimplementedInstruction 1#3 (.reg 0x20#6) 0x20#32)]
      ∧ (run 0xDA05#16 (small 1#64 2#64 0)).outputs = [.fatal (.unimplementedInstruction 2#3 (.mem 0#3) 0x20#32)]
      ∧ (run 0xDA05#16 (small 1#64 2#64 0)).halted = true := by decide +kernel

/-- F3, F4, F5: a halted block ignores FLD1 and FNINIT, and `RESET` brings it back with `top` as it was. -/
theorem test_halted_until_reset :
    let h := run 0xD9E0#16 { small 1#64 2#64 0 with cw := 0x0F7F#16 }
    (run 0xD9E8#16 h).top = 6#3 ∧ (run 0xDBE3#16 h).cw = 0x0F7F#16 ∧ (run 0xDBE3#16 h).halted = true
      ∧ (after (step (h.setInputs [.reset]))).halted = false ∧ (after (step (h.setInputs [.reset]))).report = none
      ∧ (after (step (h.setInputs [.reset]))).top = 6#3 ∧ (after (step (h.setInputs [.reset]))).cw = 0x037F#16 := by decide +kernel

/-- F7: a power-on state with `top = 4` and the word registers at other values than a reset's, then `RESET`. -/
theorem test_power_on :
    let s := State.powerOn ⟨#v[1#64, 2#64, 3#64, 4#64, 5#64, 6#64, 7#64, 8#64], 4#3, 0x00FF#16, 0x1234#16, 0x7800#16, 1#32, 2#16, 3#32⟩
    let t := after (step (s.setInputs [.reset]))
    s.halted = false ∧ s.cw = 0x1234#16 ∧ t.top = 4#3 ∧ t.swImage = 0x2000#16 ∧ t.cw = 0x037F#16 ∧ t.slot 4#3 = 5#64 := by decide +kernel

/-- A word placed by `withFetchWord` is the one the next step executes. -/
theorem test_withFetchWord : (after (step (State.reset.withFetchWord 16 0xD9E8))).st 0#3 = 0x3FF0000000000000#64
    ∧ (after (step (State.reset.withFetchWord 16 0xD9E8))).inputs = [] := by decide +kernel

/-- The step of a byte that is no escape is refused by name. -/
theorem test_not_escape : step (State.reset.withFetchWord 16 0x90C1) = .refused (.notEscape 0x90#8) := rfl

/-- Addresses wrap modulo 2^32, and a store of zero bytes leaves nothing listed. -/
theorem test_memory_wraps : Memory.writeBytes [] 0xFFFFFFFF#32 2 0x1234 = [(0, 0x12#8), (0xFFFFFFFF, 0x34#8)]
    ∧ Memory.writeBytes (Memory.writeBytes [] 0x1000#32 8 0x1122334455667788) 0x1000#32 8 0 = [] := by decide +kernel

/-! ## Witnesses: every statement's hypotheses are met together by a concrete case -/

/-- The state of the witnesses: `ST(0) = 2.5`, `ST(1) = 1.0`, 3.0 in memory. -/
def sample : State := small 0x4004000000000000#64 0x3FF0000000000000#64 0x4008000000000000

theorem test_witness_DecodeOfEncodeIsTheInstruction : (Instr.faddM32 ⟨2#2, 5#3⟩).WellFormed ∧ (Instr.undefined 1#3 0xE0#8).WellFormed := by
  decide +kernel

theorem test_witness_EncodeOfDecodeIsTheWord : decodeWord 0xD8FF#16 = .ok (.fdivrStSti 7#3) := by decide

/-- A word that a row takes, and both sides of the equivalence met and failing somewhere. -/
theorem test_witness_OpcodeMapIsUnambiguousAndTotal : (⟨.regFixed, 0xDED9#16, 0xFFFF#16⟩ : OpcodeRow) ∈ opcodeRows
    ∧ rowMatches ⟨.regFixed, 0xDED9#16, 0xFFFF#16⟩ 0xDED9#16 = true ∧ decode (0b11011#5 ++ 6#3) 0xD8#8 = .ok (.undefined 6#3 0xD8#8)
    ∧ isDefinedWord (pairWord 6#3 0xD9#8) = true := by decide +kernel

theorem test_witness_NonEscapeByteIsRefused : (0x90#8 : Byte).extractLsb' 3 5 ≠ 0b11011#5 ∧ (0xD7#8 : Byte).extractLsb' 3 5 ≠ 0b11011#5
    ∧ (sample.setInputs [.instr ⟨0x90#8, 0#8, 0#32, 0#32⟩]).halted = false
    ∧ (sample.setInputs [.instr ⟨0x90#8, 0#8, 0#32, 0#32⟩]).inputs = [.instr ⟨0x90#8, 0#8, 0#32, 0#32⟩] := by decide

/-- The clause about an index other than 7, at its two ends. -/
theorem test_witness_StackLaws : (0#3 : StackIndex) ≠ 7#3 ∧ (6#3 : StackIndex) ≠ 7#3
    ∧ (sample.push 9#64).st 7#3 = sample.st 6#3 ∧ (sample.push 9#64).st 1#3 = sample.st 0#3 := by decide

/-- Divisors that are zero and that are not, in memory and in registers. -/
theorem test_witness_MemoryDivide_RegisterDivide_PopDivideNeverStops :
    Num.isZero 0x8000000000000000#64 = true ∧ Num.isZero (sample.st 0#3) = false ∧ Num.isZero (sample.busValue sample.port.ea .w64) = false
      ∧ Num.isZero ((small 0#64 0#64 0).busValue 0x1000#32 .w64) = true ∧ Num.isZero ((small 0#64 0#64 0).st 0#3) = true
      ∧ sample.cw.getLsbD 2 = true := by decide +kernel

theorem test_witness_ArithmeticWritesNoFlag :
    isArithmetic (.fdivpStiSt 1#3) = true ∧ exec (.fdivpStiSt 1#3) sample = .next (after (exec (.fdivpStiSt 1#3) sample)) := ⟨rfl, rfl⟩

/-- An ordered and an unordered pair. -/
theorem test_witness_ComparePopTwice : (Num.isNaN (sample.st 0#3) || Num.isNaN (sample.st 1#3)) = false
    ∧ Num.isNaN ((small 0x7FF0000000000001#64 0#64 0).st 0#3) = true := by decide +kernel

/-- A NaN, the infinities and the zeros; finite values of both signs, in order. -/
theorem test_witness_ComparisonIsQuietAndTotal : Num.isNaN 0x7FF0000000000001#64 = true ∧ Num.isNaN 0x7FF0000000000000#64 = false
    ∧ Num.isNaN 0x8000000000000000#64 = false ∧ exactValue 0x8000000000000001#64 = some (-1) ∧ exactValue 0x0000000000000001#64 = some 1
    ∧ Num.flt 0x8000000000000001#64 0x0000000000000001#64 = true ∧ Num.flt 0x0000000000000001#64 0x8000000000000001#64 = false := by
  decide +kernel

theorem test_witness_RegisterLoad : (6#3 : StackIndex) ≠ 7#3 ∧ (0#3 : StackIndex) ≠ 7#3 := by decide

/-- For FloatStores, FloatStoresAndPop, IntegerStore, ControlWordLoadAndStore, EnvironmentStore and StatusWordStores. -/
theorem test_witness_stores : sample.mem.wf = true ∧ sample.mem ≠ [] ∧ State.reset.mem.wf = true ∧ (AddrMode.mk 2#2 7#3).wf = true := by
  decide +kernel

theorem test_witness_DoubleLoadStoreIsTheIdentity :
    let t := after (exec (.fldM64 ⟨0#2, 5#3⟩) sample)
    sample.mem.wf = true ∧ exec (.fldM64 ⟨0#2, 5#3⟩) sample = .next t
      ∧ exec (.fstpM64 ⟨0#2, 5#3⟩) t = .next (after (exec (.fstpM64 ⟨0#2, 5#3⟩) t)) := ⟨by decide +kernel, rfl, rfl⟩

/-- A least single, a largest and an infinity; a double that is no single; integral doubles at the two ends and one out of range; NaNs. -/
theorem test_witness_ConversionsAreExactOrCorrectlyRounded : Num.unpack32 0x00000001#32 ≠ .nan ∧ Num.unpack32 0xFF800000#32 ≠ .nan
    ∧ exactValue32 0x7F7FFFFF#32 = some (16777215 <<< 253 : Nat) ∧ (exactValue 0x3FB999999999999A#64).isSome
    ∧ exactValue 0xC3E0000000000000#64 = some ((0x8000000000000000#64).toInt * unitsOfOne)
    ∧ exactValue 0x3FF0000000000000#64 = some ((1#64).toInt * unitsOfOne) ∧ exactValue 0x7FF0000000000000#64 = none
    ∧ Num.unpack32 0x7F800001#32 = .nan ∧ Num.isNaN 0x7FF0000000000001#64 = true := by decide +kernel

/-- An infinity equals the value of no integer, so the clause about the draw has a case. -/
theorem test_witness_ConversionOutOfRange : ∀ n : BitVec 64, exactValue 0x7FF0000000000000#64 ≠ some (n.toInt * unitsOfOne) := by
  have h : exactValue 0x7FF0000000000000#64 = none := by decide +kernel
  simp [h]

/-- Draws that are NaNs and that are not. -/
theorem test_witness_RoundingTable : Num.isNaN 0xFFF8000000000000#64 = true ∧ Num.isNaN 0#64 = false ∧ Num.unpack32 0xFFC00000#32 = .nan := by
  decide +kernel

/-- `CW` is rewritten by FNINIT between the store and the load. -/
theorem test_witness_EnvironmentControlWordRoundTrip :
    let s := { sample with cw := 0x0C7F#16 }
    let t := after (exec (.fnstenvM14 ⟨0#2, 5#3⟩) s)
    let u := after (exec .fninit t)
    s.mem.wf = true ∧ exec (.fnstenvM14 ⟨0#2, 5#3⟩) s = .next t ∧ u.mem = t.mem ∧ u.port.ea = s.port.ea
      ∧ exec (.fldcwM16 ⟨0#2, 5#3⟩) u = .next (after (exec (.fldcwM16 ⟨0#2, 5#3⟩) u)) ∧ u.cw = 0x037F#16 :=
  ⟨by decide +kernel, rfl, rfl, rfl, rfl, rfl⟩

/-- A fraction, a zero and a negative value, for the directed modes; an infinite sum and a NaN. -/
theorem test_witness_RoundingModesByValue : exactValue 0x4004000000000000#64 = some (5 <<< 1073 : Nat) ∧ exactValue 0x8000000000000000#64 = some 0
    ∧ exactValue 0xBFE0000000000000#64 = some (-((1 <<< 1073 : Nat) : Int))
    ∧ exactValue (Num.fadd 0x7FF0000000000000#64 Num.half64 0#64) = none ∧ Num.isNaN 0x7FF0000000000001#64 = true := by decide +kernel

/-- The ends of nearest mode's range (48_exchange_and_rounding.md R293, R301): -2^63 and the double next below 2^63 are in range and
return themselves; 2^63 and the double next below -2^63 give the draw, here 5. -/
theorem test_witness_NearestRange : exactValue (Num.fadd 0xC3E0000000000000#64 Num.half64 5#64) = some (-((1 <<< 1137 : Nat) : Int))
    ∧ roundNearest 0xC3E0000000000000#64 5#64 = 0xC3E0000000000000#64 ∧ roundNearest 0x43DFFFFFFFFFFFFF#64 5#64 = 0x43DFFFFFFFFFFFFF#64
    ∧ exactValue (Num.fadd 0x43E0000000000000#64 Num.half64 5#64) = some ((1 <<< 1137 : Nat) : Int)
    ∧ roundNearest 0x43E0000000000000#64 5#64 = 5#64 ∧ roundNearest 0xC3E0000000000001#64 5#64 = 5#64 := by decide +kernel

/-- The largest double below 0.5 gives 1.0, since its sum with 0.5 rounds to 1; a zero result is `+0` (48_exchange_and_rounding.md R293). -/
theorem test_nearest_rounds_the_sum_first : roundNearest 0x3FDFFFFFFFFFFFFF#64 5#64 = 0x3FF0000000000000#64
    ∧ roundNearest 0x8000000000000000#64 5#64 = 0x0000000000000000#64 := by decide +kernel

/-- A tie between two neighbours, the even one taken, in both formats, and the least magnitudes that overflow. -/
theorem test_witness_NarrowingIsToNearestEven : Num.roundMag 52 1 (2 ^ 54 + 2) = 0x0020000000000000
    ∧ Num.roundMag 23 1 (2 ^ 25 + 2) = 0x01000000 ∧ Num.roundMag 52 1 (2 ^ 54 + 6) = 0x0020000000000002
    ∧ Num.roundMag 52 0 overflow64 = 0x7FF0000000000000 ∧ Num.roundMag 52 0 (overflow64 - 1) = 0x7FEFFFFFFFFFFFFF
    ∧ Num.roundMag 23 0 overflow32 = 0x7F800000 ∧ Num.roundMag 23 0 (overflow32 - 1) = 0x7F7FFFFF := by decide +kernel

/-- A finite sum, a sum beyond the largest finite double, a zero sum and a zero difference. -/
theorem test_witness_SumAndDifferenceAreCorrectlyRounded :
    (exactValue 0x3FF0000000000000#64 = some (1 <<< 1074 : Nat) ∧ (exactValue (Num.fadd 0x3FF0000000000000#64 0x3FF0000000000000#64 0#64)).isSome)
      ∧ ((exactValue 0x7FEFFFFFFFFFFFFF#64).isSome ∧ exactValue (Num.fadd 0x7FEFFFFFFFFFFFFF#64 0x7FEFFFFFFFFFFFFF#64 0#64) = none)
      ∧ exactValue 0x0000000000000000#64 = some 0 ∧ exactValue 0x8000000000000000#64 = some 0 := by decide +kernel

/-- A divisor that is no zero, an inexact quotient, a product that underflows to a zero and one that overflows. -/
theorem test_witness_ProductAndQuotientAreCorrectlyRounded :
    exactValue 0x4008000000000000#64 = some (3 <<< 1074 : Nat) ∧ Num.fdiv 0x3FF0000000000000#64 0x4008000000000000#64 0#64 = 0x3FD5555555555555#64
      ∧ exactValue (Num.fmul 0x0000000000000001#64 0x3FD0000000000000#64 0#64) = some 0
      ∧ exactValue (Num.fmul 0x7FEFFFFFFFFFFFFF#64 0x4000000000000000#64 0#64) = none := by decide +kernel

/-- A NaN, a zero and a finite value other than zero. -/
theorem test_witness_NaNAndInfinityOperands : Num.isNaN 0x7FF0000000000001#64 = true ∧ exactValue 0x8000000000000000#64 = some 0
    ∧ exactValue 0x0000000000000001#64 = some 1 := by decide +kernel

/-- A halted block with an undefined instruction presented. -/
theorem test_witness_HaltedBlockIgnoresInstructions :
    let s := (after (exec (.undefined 1#3 0xE0#8) sample)).setInputs [.instr ⟨0xD9#8, 0xE0#8, 0#32, 0#32⟩]
    s.halted = true ∧ s.inputs = [.instr ⟨0xD9#8, 0xE0#8, 0#32, 0#32⟩] := ⟨rfl, rfl⟩

/-- An instruction that completes and one that ends in a fatal. For FatalIsReportedOnce and StepRunsTheDecodedInstruction. -/
theorem test_witness_running_steps :
    let s := sample.setInputs [.instr ⟨0xD9#8, 0xE8#8, 0#32, 0#32⟩]
    let u := sample.setInputs [.instr ⟨0xD9#8, 0xE0#8, 0#32, 0#32⟩]
    s.halted = false ∧ step s = .next (after (step s)) ∧ (after (step s)).halted = false
      ∧ step u = .next (after (step u)) ∧ (after (step u)).halted = true ∧ decode 0xD9#8 0xE8#8 = .ok .fld1 :=
  ⟨rfl, rfl, rfl, rfl, rfl, by decide⟩

theorem test_witness_ResetInputAndFninit : (sample.setInputs [.reset]).inputs = .reset :: [] ∧ sample.halted = false ∧ sample.report = none
    ∧ sample.top ≠ 0#3 := by decide

/-- A state of a session with something in every part, and its step. For StepKeepsTheSessionInvariant, TagBitsOnlyRise and
NoFlagBitEverRises. -/
theorem test_witness_step_invariants :
    let s := { sample with tw := 0xFFFF#16, sw := 0x4500#16, inputs := [.instr ⟨0xD8#8, 0xD9#8, 0#32, 0#32⟩] }
    SessionInvariant s ∧ step s = .next (after (step s)) ∧ (after (step s)).sw.getLsbD 9 = false ∧ (9 : Nat) ≠ 8 := by
  refine ⟨⟨by decide +kernel, rfl, by decide, rfl, rfl, rfl, rfl⟩, rfl, by decide +kernel, by decide⟩

/-- The clause of NoFlagBitEverRises with its bit set after the step. -/
theorem test_witness_NoFlagBitEverRises :
    let s := { sample with sw := 0x0200#16, inputs := [.instr ⟨0xD9#8, 0xE8#8, 0#32, 0#32⟩] }
    step s = .next (after (step s)) ∧ (after (step s)).sw.getLsbD 9 = true := ⟨rfl, rfl⟩

theorem test_witness_TopMovesByPushAndPopOnly : exec .fcompp sample = .next (after (exec .fcompp sample)) ∧ topShift .fcompp = 2#3 := ⟨rfl, rfl⟩

theorem test_witness_TagsDecideNothing : storesTagWord .fcompp = false ∧ storesTagWord (.fnstenvM14 ⟨0#2, 5#3⟩) = true := ⟨rfl, rfl⟩

/-- A reader of each field with the bits it reads kept and every other bit changed, and an instruction that reads none. -/
theorem test_witness_ControlWordReaders : storesControlWord .frndint = false ∧ readsRoundingControl .frndint = true
    ∧ readsZeroDivideMask .frndint = false ∧ (0xF080#16 : Word16).extractLsb' 10 2 = (0x037F#16 : Word16).extractLsb' 10 2
    ∧ storesControlWord (.fdivpStiSt 1#3) = false ∧ readsZeroDivideMask (.fdivpStiSt 1#3) = true
    ∧ readsRoundingControl (.fdivpStiSt 1#3) = false ∧ (0xFC84#16 : Word16).getLsbD 2 = (0x037F#16 : Word16).getLsbD 2
    ∧ storesControlWord .fld1 = false ∧ readsZeroDivideMask .fld1 = false ∧ readsRoundingControl .fld1 = false := by decide

end Sys2Proof.Tests
end

