-- ==== Sys2Proof/Proofs/BusRead.lean ====
section
/-! The bytes of a bus read: byte `k` of the little-endian number `Memory.readBytes` builds, by induction on how many bytes are
read. The address of byte `k` is taken modulo 2^32, as `a + BitVec.ofNat 32 k`. -/

namespace Sys2Proof.Machine

theorem add_one_add_ofNat (a : Addr) (k : Nat) : a + 1#32 + BitVec.ofNat 32 k = a + BitVec.ofNat 32 (k + 1) := by
  rw [BitVec.add_assoc, ← BitVec.ofNat_add, Nat.add_comm 1 k]

/-- Byte 0 of a number put together from a low byte and the bytes above it is the low byte. -/
theorem ofNat_byte_add_mul (b : Byte) (r : Nat) : BitVec.ofNat 8 (b.toNat + 256 * r) = b := by
  apply BitVec.eq_of_toNat_eq
  rw [BitVec.toNat_ofNat]
  omega

/-- Shifting that number right by one byte more drops the low byte. -/
theorem byte_add_mul_div_pow_succ (b : Byte) (r k : Nat) : (b.toNat + 256 * r) / 256 ^ (k + 1) = r / 256 ^ k := by
  have hr : (b.toNat + 256 * r) / 256 = r := by omega
  rw [Nat.pow_succ', ← Nat.div_div_eq_div_mul, hr]

/-- The bytes of a little-endian read, and nothing above them (00_scope.md R13; 20_memory.md R51). -/
theorem Memory.byte_readBytes (m : Memory) : ∀ (n k : Nat) (a : Addr),
    BitVec.ofNat 8 (m.readBytes a n / 256 ^ k) = if k < n then m.readByte (a + BitVec.ofNat 32 k).toNat else 0#8
  | 0, k, _ => by simp [Memory.readBytes]
  | n + 1, 0, a => by simp [Memory.readBytes, ofNat_byte_add_mul]
  | n + 1, k + 1, a => by
    rw [Memory.readBytes, byte_add_mul_div_pow_succ, Memory.byte_readBytes m n k, add_one_add_ofNat]
    simp only [Nat.add_lt_add_iff_right]

/-- A read of `n` bytes is a number of `n` bytes. -/
theorem Memory.readBytes_lt (m : Memory) : ∀ (n : Nat) (a : Addr), m.readBytes a n < 256 ^ n
  | 0, _ => Nat.one_pos
  | n + 1, a => by
    have hrest := Memory.readBytes_lt m n (a + 1#32)
    rw [Memory.readBytes, Nat.pow_succ']
    omega

/-- An access is at most eight bytes wide, so its value fits the bus (20_memory.md R52). -/
theorem State.busValue_toNat (s : State) (a : Addr) (w : AccessWidth) : (s.busValue a w).toNat = s.mem.readBytes a w.bytes := by
  have hwidth : w.bytes ≤ 8 := by cases w <;> decide
  refine Nat.mod_eq_of_lt ?_
  calc s.mem.readBytes a w.bytes < 256 ^ w.bytes := Memory.readBytes_lt s.mem w.bytes a
    _ ≤ 256 ^ 8 := Nat.pow_le_pow_right (by decide) hwidth
    _ = 2 ^ 64 := by decide

/-- Byte `k` of a 64-bit word is what dividing by `256 ^ k` leaves in the low eight bits. -/
theorem extractLsb'_byte (v : BitVec 64) (k : Nat) : v.extractLsb' (8 * k) 8 = BitVec.ofNat 8 (v.toNat / 256 ^ k) := by
  apply BitVec.eq_of_toNat_eq
  rw [BitVec.extractLsb'_toNat, BitVec.toNat_ofNat, Nat.shiftRight_eq_div_pow, Nat.pow_mul]

/-- Settles O29: the value of the read is the number its bytes make (nothing is cut off at 64 bits), and byte `k` of that number is
the byte at `addr + k`. -/
theorem busReadIsLittleEndian : Obligations.BusReadIsLittleEndian := by
  intro s a w k
  rw [extractLsb'_byte, State.busValue_toNat, Memory.byte_readBytes]
  rfl

end Sys2Proof.Machine
end

section
/-! The state of 10_state.md: what every step keeps, how `top` moves, and who reads the tags and the control word.

Every instruction, and every step, is a chain of few updates of the state (`Updates`): that is shown once, instruction by
instruction (`exec_updates`), and an invariant of all steps is then one case for each update. -/

namespace Sys2Proof.Machine

/-! ### The updates an instruction is made of -/

/-- One update of the state that leaves `top`: every one an instruction is made of but push and pop, and those of a step around it. -/
inductive InPlace : State → State → Prop
  | emit (s : State) (e : PortEvent) : InPlace s (s.emit e)
  | busWrite (s : State) (a : Addr) (w : AccessWidth) (v : BitVec 64) : InPlace s (s.busWrite a w v)
  | writeAx (s : State) (v : Word16) : InPlace s (s.writeAx v)
  | afterDraw (s : State) : InPlace s s.afterDraw
  | setSt (s : State) (i : StackIndex) (v : Slot) : InPlace s (s.setSt i v)
  | compare (s : State) (a b : Slot) : InPlace s (s.setSw (compareWord s.sw a b))
  | comparePP (s : State) (a b : Slot) : InPlace s (s.setSw (comparePPWord s.sw a b))
  | clearExceptions (s : State) : InPlace s (s.setSw (clearExceptions s.sw))
  | setCw (s : State) (w : Word16) : InPlace s (s.setCw w)
  | initWords (s : State) : InPlace s s.initWords
  | raise (s : State) (r : Report) : InPlace s (s.raise r)
  | assertReset (s : State) : InPlace s s.assertReset
  | sample (s : State) (p : Presented) : InPlace s (s.sample p)
  | setInputs (s : State) (l : List HostInput) : InPlace s (s.setInputs l)

/-- A chain of updates; the index counts the pops less the pushes, modulo 8. -/
inductive Updates (s : State) : StackIndex → State → Prop
  | refl : Updates s 0#3 s
  | inPlace {n : StackIndex} {t u : State} : Updates s n t → InPlace t u → Updates s n u
  | push {n : StackIndex} {t : State} (v : Slot) : Updates s n t → Updates s (n - 1#3) (t.push v)
  | pop {n : StackIndex} {t : State} : Updates s n t → Updates s (n + 1#3) t.popState

theorem InPlace.updates {s t : State} (h : InPlace s t) : Updates s 0#3 t := .inPlace .refl h

theorem InPlace.top {s t : State} (h : InPlace s t) : t.top = s.top := by
  cases h <;> rfl

/-- A chain moves `top` by its pushes and pops (10_state.md R25). -/
theorem Updates.top {s t : State} {n : StackIndex} (h : Updates s n t) : t.top = s.top + n := by
  induction h with
  | refl => simp
  | inPlace _ hu ih => rw [hu.top, ih]
  | push v _ ih => rw [State.push_top, ih, add_sub_assoc]
  | pop _ ih => rw [State.popState_top, ih, BitVec.add_assoc]

/-! ### Every instruction is a chain of updates -/

theorem updates_loadF32 (s : State) (ea : Addr) : Updates s 0#3 (loadF32 s ea).2 :=
  (InPlace.emit s _).updates.inPlace (.afterDraw _)

theorem updates_loadF64 (s : State) (ea : Addr) : Updates s 0#3 (loadF64 s ea).2 := (InPlace.emit s _).updates

theorem updates_loadI64 (s : State) (ea : Addr) : Updates s 0#3 (loadI64 s ea).2 := (InPlace.emit s _).updates

theorem updates_storeF32 (s : State) (ea : Addr) (x : Slot) : Updates s 0#3 (storeF32 s ea x) :=
  (InPlace.busWrite s _ _ _).updates.inPlace (.afterDraw _)

theorem Updates.store16s {s : State} {n : StackIndex} (ws : List Word16) : ∀ {t : State} (ea : Addr),
    Updates s n t → Updates s n (store16s t ea ws) := by
  induction ws with
  | nil => exact fun _ h => h
  | cons w rest ih => exact fun ea h => ih (ea + 2#32) (h.inPlace (.busWrite _ _ _ _))

/-- The D8 and DC forms: a fatal, or one register and a draw; neither moves `top`. -/
theorem Updates.arithInto {s t : State} {n : StackIndex} (op : ArithOp) (i : StackIndex) (src : Slot) (h : Updates s n t) :
    Updates s n (arithInto op i src t) := by
  rcases arithInto_cases op i src t with ⟨-, e⟩ | ⟨-, e⟩ <;> rw [e]
  · exact h.inPlace (.raise _ _)
  · exact (h.inPlace (.setSt _ _ _)).inPlace (.afterDraw _)

/-- One register, a draw and one pop: the pop forms of the arithmetic, and FYL2X. -/
theorem updates_setSt_pop (s : State) (i : StackIndex) (v : Slot) : Updates s 1#3 (s.setSt i v).afterDraw.popState :=
  ((InPlace.setSt s i v).updates.inPlace (.afterDraw _)).pop

/-- Every instruction answers a next state, by a chain of updates that pushes and pops as often as `topShift` says
(10_state.md R25). -/
theorem exec_updates (i : Instr) (s : State) : ∃ t : State, exec i s = .next t ∧ Updates s (topShift i) t := by
  cases i with
  | faddM32 | fmulM32 | fsubM32 | fsubrM32 | fdivM32 | fdivrM32 =>
    exact ⟨_, rfl, (updates_loadF32 s _).arithInto _ _ _⟩
  | faddM64 | fmulM64 | fsubM64 | fsubrM64 | fdivM64 | fdivrM64 =>
    exact ⟨_, rfl, (updates_loadF64 s _).arithInto _ _ _⟩
  | faddStSti | fmulStSti | fsubStSti | fsubrStSti | fdivStSti | fdivrStSti
  | faddStiSt | fmulStiSt | fsubStiSt | fsubrStiSt | fdivStiSt | fdivrStiSt =>
    exact ⟨_, rfl, Updates.refl.arithInto _ _ _⟩
  | faddpStiSt | fmulpStiSt | fsubpStiSt | fsubrpStiSt | fdivpStiSt | fdivrpStiSt | fyl2x =>
    exact ⟨_, rfl, updates_setSt_pop s _ _⟩
  | fcomM32 => exact ⟨_, rfl, (updates_loadF32 s _).inPlace (.compare _ _ _)⟩
  | fcomM64 => exact ⟨_, rfl, (updates_loadF64 s _).inPlace (.compare _ _ _)⟩
  | fcomSti => exact ⟨_, rfl, (InPlace.compare s _ _).updates⟩
  | fcompM32 => exact ⟨_, rfl, ((updates_loadF32 s _).inPlace (.compare _ _ _)).pop⟩
  | fcompM64 => exact ⟨_, rfl, ((updates_loadF64 s _).inPlace (.compare _ _ _)).pop⟩
  | fcompSti => exact ⟨_, rfl, (InPlace.compare s _ _).updates.pop⟩
  | fcompp => exact ⟨_, rfl, (InPlace.comparePP s _ _).updates.pop.pop⟩
  | fldM32 => exact ⟨_, rfl, (updates_loadF32 s _).push _⟩
  | fldM64 => exact ⟨_, rfl, (updates_loadF64 s _).push _⟩
  | fildM64 => exact ⟨_, rfl, (updates_loadI64 s _).push _⟩
  | fldSti | fld1 | fldl2t | fldl2e | fldpi | fldlg2 | fldln2 | fldz => exact ⟨_, rfl, Updates.refl.push _⟩
  | fstM32 => exact ⟨_, rfl, updates_storeF32 s _ _⟩
  | fstpM32 => exact ⟨_, rfl, (updates_storeF32 s _ _).pop⟩
  | fstM64 | fnstcwM16 | fnstswM16 => exact ⟨_, rfl, (InPlace.busWrite s _ _ _).updates⟩
  | fstpM64 => exact ⟨_, rfl, (InPlace.busWrite s _ _ _).updates.pop⟩
  | fistpM64 =>
    exact ⟨_, rfl, (((InPlace.afterDraw s).updates.inPlace (.afterDraw _)).inPlace (.busWrite _ _ _ _)).pop⟩
  | fldcwM16 => exact ⟨_, rfl, (InPlace.emit s _).updates.inPlace (.setCw _ _)⟩
  | fnstenvM14 => exact ⟨_, rfl, Updates.refl.store16s _ _⟩
  | fnstswAx => exact ⟨_, rfl, (InPlace.writeAx s _).updates⟩
  | fnclex => exact ⟨_, rfl, (InPlace.clearExceptions s).updates⟩
  | fninit => exact ⟨_, rfl, (InPlace.initWords s).updates⟩
  | fsetpm => exact ⟨_, rfl, .refl⟩
  | fxchSti => exact ⟨_, rfl, (InPlace.setSt s _ _).updates.inPlace (.setSt _ _ _)⟩
  | frndint => exact ⟨_, rfl, (InPlace.setSt s _ _).updates.inPlace (.afterDraw _)⟩
  | f2xm1 => exact ⟨_, rfl, (InPlace.setSt s _ _).updates⟩
  | undefined => exact ⟨_, rfl, (InPlace.raise s _).updates⟩

theorem updates_of_exec {i : Instr} {s t : State} (h : exec i s = .next t) : Updates s (topShift i) t := by
  obtain ⟨u, hu, hs⟩ := exec_updates i s
  obtain rfl : u = t := by simpa using hu.symm.trans h
  exact hs

theorem Updates.trans {s t u : State} {n k : StackIndex} (h : Updates s n t) (h' : Updates t k u) : Updates s (n + k) u := by
  induction h' with
  | refl => simpa using h
  | inPlace _ hu ih => exact ih.inPlace hu
  | push v _ ih => simpa only [add_sub_assoc] using ih.push v
  | pop _ ih => simpa [BitVec.add_assoc] using ih.pop

theorem Updates.endInstruction {s t : State} {n : StackIndex} (h : Updates s n t) : Updates s n t.endInstruction := by
  rcases endInstruction_cases t with ⟨-, e⟩ | ⟨-, e⟩ <;> rw [e]
  · exact h
  · exact h.inPlace (.emit _ _)

/-- Every step is a chain of updates. -/
theorem updates_of_step {s t : State} (h : step s = .next t) : ∃ n : StackIndex, Updates s n t := by
  rcases step_cases h with ⟨-, rfl⟩ | ⟨rest, -, rfl⟩ | ⟨p, rest, -, -, rfl⟩ | ⟨p, rest, i, u, -, -, -, he, rfl⟩
  · exact ⟨_, .refl⟩
  · exact ⟨_, (InPlace.setInputs s rest).updates.inPlace (.assertReset _)⟩
  · exact ⟨_, (InPlace.setInputs s rest).updates⟩
  · have hs := (InPlace.setInputs s rest).updates.inPlace (.sample _ p)
    exact ⟨_, (hs.trans (updates_of_exec he)).endInstruction⟩

/-! ### The invariant of a session -/

/-- FCOMPP leaves every bit but C3, C2 and C0, for unordered operands too (43_compare.md R198). -/
theorem comparePPWord_and_keep (sw : Word16) (a b : Slot) : comparePPWord sw a b &&& 0xBAFF#16 = sw &&& 0xBAFF#16 := by
  unfold comparePPWord clearCC maskC0 maskC3
  split_ifs <;> simp [BitVec.and_or_distrib_right, BitVec.and_assoc, unorderedBits_and_keep]

theorem clearExceptions_and_keep {sw : Word16} (h : sw &&& 0xBAFF#16 = 0#16) : clearExceptions sw &&& 0xBAFF#16 = 0#16 := by
  rw [clearExceptions, BitVec.and_assoc, BitVec.and_comm 0xFF00#16, ← BitVec.and_assoc, h, BitVec.zero_and]

theorem InPlace.keeps_sessionInvariant {s t : State} (h : InPlace s t) (hs : SessionInvariant s) : SessionInvariant t := by
  obtain ⟨hwf, htw, hsw, hlip, hlop, hldp, hlatch⟩ := hs
  cases h with
  | emit | writeAx | afterDraw | setSt | setCw | sample | setInputs => exact ⟨hwf, htw, hsw, hlip, hlop, hldp, hlatch⟩
  | busWrite a w v => exact ⟨s.wf_busWrite a w v hwf, htw, hsw, hlip, hlop, hldp, hlatch⟩
  | compare a b => exact ⟨hwf, htw, (compareWord_and_keep s.sw a b).trans hsw, hlip, hlop, hldp, hlatch⟩
  | comparePP a b => exact ⟨hwf, htw, (comparePPWord_and_keep s.sw a b).trans hsw, hlip, hlop, hldp, hlatch⟩
  | clearExceptions => exact ⟨hwf, htw, clearExceptions_and_keep hsw, hlip, hlop, hldp, hlatch⟩
  | initWords => exact ⟨hwf, rfl, BitVec.zero_and, rfl, rfl, rfl, hlatch⟩
  | raise => exact ⟨hwf, htw, hsw, hlip, hlop, hldp, rfl⟩
  | assertReset => exact ⟨hwf, rfl, BitVec.zero_and, rfl, rfl, rfl, rfl⟩

/-- Popping marks a tag Empty that is Empty already (10_state.md R29). -/
theorem popState_keeps_sessionInvariant {s : State} (hs : SessionInvariant s) : SessionInvariant s.popState := by
  obtain ⟨hwf, htw, hrest⟩ := hs
  exact ⟨hwf, by rw [State.popState_tw, htw, emptyTag_allOnes], hrest⟩

theorem Updates.keeps_sessionInvariant {s t : State} {n : StackIndex} (h : Updates s n t) (hs : SessionInvariant s) :
    SessionInvariant t := by
  induction h with
  | refl => exact hs
  | inPlace _ hu ih => exact hu.keeps_sessionInvariant ih
  | push _ _ ih => exact ih
  | pop _ ih => exact popState_keeps_sessionInvariant ih

/-- Settles O54: a step is a chain of updates, and each update keeps the invariant. -/
theorem stepKeepsTheSessionInvariant : Obligations.StepKeepsTheSessionInvariant := by
  intro s t hs h
  obtain ⟨n, hu⟩ := updates_of_step h
  exact hu.keeps_sessionInvariant hs

/-! ### Tags and `top` -/

theorem InPlace.and_tw {s t : State} (h : InPlace s t) : s.tw &&& t.tw = s.tw := by
  cases h with
  | initWords | assertReset => exact BitVec.and_allOnes
  | _ => exact BitVec.and_self

/-- A chain of updates clears no tag bit (10_state.md R29). -/
theorem Updates.and_tw {s t : State} {n : StackIndex} (h : Updates s n t) : s.tw &&& t.tw = s.tw := by
  have trans {x y z : Word16} (hxy : x &&& y = x) (hyz : y &&& z = y) : x &&& z = x := by
    rw [← hxy, BitVec.and_assoc, hyz]
  induction h with
  | refl => exact BitVec.and_self
  | inPlace _ hu ih => exact trans ih hu.and_tw
  | push _ _ ih => exact ih
  | pop _ ih => exact trans ih (and_emptyTag _ _)

/-- Settles O56: the only writers of the tags set bits, a pop two of them, FNINIT and `RESET` all sixteen. -/
theorem tagBitsOnlyRise : Obligations.TagBitsOnlyRise := by
  intro s t h
  obtain ⟨n, hu⟩ := updates_of_step h
  exact hu.and_tw

/-- Settles O58: `top` moves with the pushes and pops of the instruction's chain of updates. -/
theorem topMovesByPushAndPopOnly : Obligations.TopMovesByPushAndPopOnly :=
  fun _ _ _ h => (updates_of_exec h).top

end Sys2Proof.Machine
end

section
/-! Who reads the tags and the control word (10_state.md). Two runs of an instruction, from states that differ in one word only,
are compared with that word set to 0 in both answers. Where an instruction does not read the word the two answers are the same
by computation, unless it branches; the only branch of an instruction on its state is the fatal on a zero divisor. -/

namespace Sys2Proof.Machine

/-- The tag word written, for comparing runs from states that differ in it. -/
def State.setTw (s : State) (w : Word16) : State := { s with tw := w }

/-- The D8 and DC forms take of the state `ST(i)` and the draw only: from two states with the same ones they take the same
branch, to the same value. -/
theorem arithInto_congr (f : State → State) {s s' : State} (op : ArithOp) (i : StackIndex) (src : Slot) (hst : s'.st i = s.st i)
    (hdraw : s'.draw = s.draw) (hfatal : f s'.raiseZeroDivide = f s.raiseZeroDivide)
    (hresult : ∀ v : Slot, f (s'.setSt i v).afterDraw = f (s.setSt i v).afterDraw) :
    f (arithInto op i src s') = f (arithInto op i src s) := by
  cases hz : zeroDivisor op (s.st i) src
  · rw [arithInto_of_divisor hz, arithInto_of_divisor (hst ▸ hz), hst, hdraw, hresult]
  · rw [arithInto_of_zeroDivisor hz, arithInto_of_zeroDivisor (hst ▸ hz), hfatal]

/-! ### The tag word -/

/-- The D8 and DC forms read no tag. -/
theorem arithInto_setTw (op : ArithOp) (i : StackIndex) (src : Slot) (s : State) (w : Word16) :
    mapNext (State.setTw · 0#16) (.next (arithInto op i src (s.setTw w)))
      = mapNext (State.setTw · 0#16) (.next (arithInto op i src s)) :=
  congrArg Host.Outcome.next (arithInto_congr (State.setTw · 0#16) op i src rfl rfl rfl fun _ => rfl)

/-- Settles O59: the branch on a zero divisor reads no tag, and no other operation of an instruction does. -/
theorem tagsDecideNothing : Obligations.TagsDecideNothing := by
  intro i s w hstore
  change mapNext (State.setTw · 0#16) (exec i (s.setTw w)) = mapNext (State.setTw · 0#16) (exec i s)
  cases i with
  | fnstenvM14 => cases hstore
  | faddM32 | fmulM32 | fsubM32 | fsubrM32 | fdivM32 | fdivrM32 =>
    exact arithInto_setTw _ _ _ (loadF32 s s.port.ea).2 w
  | faddM64 | fmulM64 | fsubM64 | fsubrM64 | fdivM64 | fdivrM64 =>
    exact arithInto_setTw _ _ _ (loadF64 s s.port.ea).2 w
  | faddStSti | fmulStSti | fsubStSti | fsubrStSti | fdivStSti | fdivrStSti
  | faddStiSt | fmulStiSt | fsubStiSt | fsubrStiSt | fdivStiSt | fdivrStiSt =>
    exact arithInto_setTw _ _ _ s w
  | _ => rfl

/-! ### The control word -/

/-- The D8 and DC forms read no bit of the control word: the fatal on a zero divisor heeds no mask (42_arithmetic.md R145). -/
theorem arithInto_setCw (op : ArithOp) (i : StackIndex) (src : Slot) (s : State) (w : Word16) :
    mapNext (State.setCw · 0#16) (.next (arithInto op i src (s.setCw w)))
      = mapNext (State.setCw · 0#16) (.next (arithInto op i src s)) :=
  congrArg Host.Outcome.next (arithInto_congr (State.setCw · 0#16) op i src rfl rfl rfl fun _ => rfl)

/-- The pop forms read the mask of the zero divide and no other bit of the control word (42_arithmetic.md R146, R147). -/
theorem arithPop_setCw (op : ArithOp) (i : StackIndex) (s : State) (w : Word16) (hzm : w.getLsbD 2 = s.cw.getLsbD 2) :
    mapNext (State.setCw · 0#16) (arithPop op i (s.setCw w)) = mapNext (State.setCw · 0#16) (arithPop op i s) :=
  congrArg (fun masked => mapNext (State.setCw · 0#16)
    (.next (s.setSt i (popValue op masked (s.st i) (s.st 0#3) s.draw)).afterDraw.popState)) hzm

/-- FRNDINT reads the rounding control and no other bit of the control word (48_exchange_and_rounding.md R292). -/
theorem execFrndint_setCw (s : State) (w : Word16) (hrc : w.extractLsb' 10 2 = s.cw.extractLsb' 10 2) :
    mapNext (State.setCw · 0#16) (execFrndint (s.setCw w)) = mapNext (State.setCw · 0#16) (execFrndint s) :=
  congrArg (fun rc => mapNext (State.setCw · 0#16) (.next (s.setSt 0#3 (round (s.st 0#3) rc s.draw)).afterDraw)) hrc

theorem fistpValue_setCw (s : State) (w : Word16) (hrc : w.extractLsb' 10 2 = s.cw.extractLsb' 10 2) :
    fistpValue (s.setCw w) = fistpValue s :=
  congrArg (fun rc => Num.f64ToI64 (round (s.st 0#3) rc s.draw) s.afterDraw.draw) hrc

/-- FISTP reads the rounding control, for the integer it stores, and no other bit of the control word (44_load_store_convert.md
R220). -/
theorem execFistpM64_setCw (m : AddrMode) (s : State) (w : Word16) (hrc : w.extractLsb' 10 2 = s.cw.extractLsb' 10 2) :
    mapNext (State.setCw · 0#16) (execFistpM64 m (s.setCw w)) = mapNext (State.setCw · 0#16) (execFistpM64 m s) :=
  congrArg (fun v => mapNext (State.setCw · 0#16) (.next (storeI64 s.afterDraw.afterDraw s.port.ea v).popState))
    (fistpValue_setCw s w hrc)

/-- Settles O60: the two pop divides, FRNDINT and FISTP reach the control word through one field each. -/
theorem controlWordReaders : Obligations.ControlWordReaders := by
  intro i s w hstore hzm hrc
  change mapNext (State.setCw · 0#16) (exec i (s.setCw w)) = mapNext (State.setCw · 0#16) (exec i s)
  cases i with
  | fnstenvM14 | fnstcwM16 => cases hstore
  | faddM32 | fmulM32 | fsubM32 | fsubrM32 | fdivM32 | fdivrM32 =>
    exact arithInto_setCw _ _ _ (loadF32 s s.port.ea).2 w
  | faddM64 | fmulM64 | fsubM64 | fsubrM64 | fdivM64 | fdivrM64 =>
    exact arithInto_setCw _ _ _ (loadF64 s s.port.ea).2 w
  | faddStSti | fmulStSti | fsubStSti | fsubrStSti | fdivStSti | fdivrStSti
  | faddStiSt | fmulStiSt | fsubStiSt | fsubrStiSt | fdivStiSt | fdivrStiSt =>
    exact arithInto_setCw _ _ _ s w
  | fdivpStiSt i | fdivrpStiSt i => exact arithPop_setCw _ i s w (hzm rfl)
  | frndint => exact execFrndint_setCw s w (hrc rfl)
  | fistpM64 m => exact execFistpM64_setCw m s w (hrc rfl)
  | _ => rfl

end Sys2Proof.Machine
end

section
/-! The stores of the status word, and the values after power-on and `RESET`. -/

namespace Sys2Proof.Machine

/-- The frame of one bus write (20_memory.md R51, R55). -/
theorem onlyStored_busWrite (s : State) (ea : Addr) (w : AccessWidth) (v : BitVec 64) (hm : s.mem.wf = true) :
    OnlyStored s (s.busWrite ea w v) ea w v :=
  ⟨fun k hk => s.byteAt_busWrite_inside ea w v k hm hk, fun a ha => s.byteAt_busWrite_outside ea w v a ha, fun _ _ => rfl,
    rfl, rfl, rfl, ⟨rfl, rfl, rfl, rfl, rfl, rfl, rfl⟩, rfl⟩

/-- Settles O36: each form is one write at a port, of `State.swImage`. -/
theorem statusWordStores : Obligations.StatusWordStores := by
  intro m s
  refine ⟨fun hm => ⟨s.busWrite s.port.ea .w16 (s.swImage.setWidth 64), rfl, ⟨rfl, rfl⟩, onlyStored_busWrite s _ _ _ hm⟩, ?_⟩
  exact ⟨s.writeAx s.swImage, rfl, rfl, fun _ _ => rfl, ⟨rfl, rfl⟩, rfl, rfl, ⟨rfl, rfl, rfl, rfl, rfl, rfl, rfl⟩, fun _ => rfl, rfl⟩

/-- A step with `RESET` as the next input. -/
theorem step_setInputs_reset (s : State) (rest : List HostInput) :
    step (s.setInputs (.reset :: rest)) = .next (s.setInputs rest).assertReset := rfl

/-- Settles O51: `RESET` writes the words, the pointers and the latch, and neither `top` nor a slot. -/
theorem powerOnAndResetValues : Obligations.PowerOnAndResetValues := by
  refine ⟨⟨rfl, rfl, rfl, rfl, rfl, rfl, rfl, rfl⟩, fun p rest => ?_⟩
  refine ⟨rfl, rfl, rfl, rfl, rfl, rfl, rfl, rfl, rfl, rfl, ((State.powerOn p).setInputs rest).assertReset, ?_⟩
  exact ⟨step_setInputs_reset _ rest, rfl, rfl, rfl, rfl, rfl, rfl, rfl, rfl, rfl, rfl⟩

end Sys2Proof.Machine
end

section
/-! The encoding of 30_encoding.md: decoding an encoding gives the instruction back, by form.

A memory form and a register form each have one lemma that computes `decodeWord` of their word down to their group's dispatcher. The
undefined pairs need the opcode map: a sub-opcode that a dispatcher takes has a row in the map (`memRow_mem_or_decodeMem_none`,
`regRow_mem_or_decodeReg_none`), and that row matches every word of the sub-opcode, whatever its addressing fields or its index. -/

namespace Sys2Proof

open Laws

/-! ### The fields of a word put together from its parts -/

@[simp] theorem modField_append (a : BitVec 2) (b c : BitVec 3) : modField (a ++ b ++ c) = a :=
  (BitVec.extractLsb'_append_eq_of_le (by decide)).trans BitVec.extractLsb'_append_eq_left

@[simp] theorem sub3Field_append (a : BitVec 2) (b c : BitVec 3) : sub3Field (a ++ b ++ c) = b :=
  (BitVec.extractLsb'_append_eq_of_le (by decide)).trans BitVec.extractLsb'_append_eq_right

@[simp] theorem rmField_append (a : BitVec 2) (b c : BitVec 3) : rmField (a ++ b ++ c) = c :=
  BitVec.extractLsb'_append_eq_right

/-- `modrm` is its three fields (30_encoding.md R72). -/
theorem modrm_eq_append (modrm : Byte) : modField modrm ++ sub3Field modrm ++ rmField modrm = modrm := by
  have hhigh : modField modrm ++ sub3Field modrm = modrm.extractLsb' 3 5 :=
    BitVec.extractLsb'_append_extractLsb'_eq_extractLsb' rfl
  rw [hhigh]
  exact BitVec.extractLsb'_append_extractLsb' (w := 5) (len := 3)

/-- The escape byte of a pair's word (30_encoding.md R70, R71). -/
theorem pairWord_escByte (g : BitVec 3) (modrm : Byte) : (pairWord g modrm).extractLsb' 8 8 = 0b11011#5 ++ g :=
  BitVec.extractLsb'_append_eq_left

/-- Decoding a pair's word is decoding inside its group. -/
theorem decodeWord_pairWord (g : BitVec 3) (modrm : Byte) : decodeWord (pairWord g modrm) = .ok (decodeGroup g modrm) := by
  have hhigh : (0b11011#5 ++ g).extractLsb' 3 5 = 0b11011#5 := BitVec.extractLsb'_append_eq_left
  have hgroup : (0b11011#5 ++ g).extractLsb' 0 3 = g := BitVec.extractLsb'_append_eq_right
  rw [decodeWord, pairWord_escByte, pairWord_modrm, decode, if_pos hhigh, hgroup]

/-! ### Decoding a word of either form -/

theorem AddrMode.wf_iff (m : AddrMode) : m.wf = true ↔ m.mod ≠ 3#2 := bne_iff_ne

/-- A memory form's word goes to the memory dispatcher (30_encoding.md R73, R74). -/
theorem decodeWord_memWord (g sub3 : BitVec 3) {m : AddrMode} (hm : m.wf = true) :
    decodeWord (memWord g sub3 m) = .ok ((decodeMem g sub3 m).getD (.undefined g (m.mod ++ sub3 ++ m.rm))) := by
  have hform : isReg (m.mod ++ sub3 ++ m.rm) = false := by
    rw [isReg_append]
    exact beq_false_of_ne (m.wf_iff.mp hm)
  rw [memWord, decodeWord_pairWord, decodeGroup, hform]
  simp

/-- A register form's word goes to the register dispatcher (30_encoding.md R73, R75). -/
theorem decodeWord_regWord (g hi lo : BitVec 3) :
    decodeWord (regWord g hi lo) = .ok ((decodeReg g hi lo).getD (.undefined g (0b11#2 ++ hi ++ lo))) := by
  have hform : isReg (0b11#2 ++ hi ++ lo) = true := isReg_append _ _ _
  rw [regWord, decodeWord_pairWord, decodeGroup, hform]
  simp

/-! ### The rows of the opcode map (30_encoding.md R77, R87) -/

/-- The row of a memory form: the addressing fields are masked out. -/
def memRow (g sub3 : BitVec 3) : OpcodeRow := ⟨.mem, memWord g sub3 ⟨0#2, 0#3⟩, 0xFF38#16⟩

/-- The row of an indexed register form: the index is masked out. -/
def indexedRow (g hi : BitVec 3) : OpcodeRow := ⟨.regIndexed, regWord g hi 0#3, 0xFFF8#16⟩

/-- The row of a fixed register form. -/
def fixedRow (g hi lo : BitVec 3) : OpcodeRow := ⟨.regFixed, regWord g hi lo, 0xFFFF#16⟩

/-- A row compares the whole escape byte, so its mask acts on `modrm` only. -/
theorem pairWord_and_append (g : BitVec 3) (modrm mask : Byte) :
    pairWord g modrm &&& (0xFF#8 ++ mask) = pairWord g (modrm &&& mask) := by
  have hesc : (0b11011#5 ++ g) &&& 0xFF#8 = 0b11011#5 ++ g := BitVec.and_allOnes
  exact BitVec.and_append.trans (congrArg (· ++ (modrm &&& mask)) hesc)

theorem modrm_and_append (a a' : BitVec 2) (b b' c c' : BitVec 3) :
    (a ++ b ++ c) &&& (a' ++ b' ++ c') = (a &&& a') ++ (b &&& b') ++ (c &&& c') := by
  rw [BitVec.and_append, BitVec.and_append]

theorem rowMatches_memRow (g sub3 : BitVec 3) {m : AddrMode} (hm : m.wf = true) :
    rowMatches (memRow g sub3) (memWord g sub3 m) = true := by
  have hmask : memWord g sub3 m &&& 0xFF38#16 = memWord g sub3 ⟨0#2, 0#3⟩ := by
    refine (pairWord_and_append g _ (0#2 ++ 7#3 ++ 0#3)).trans ?_
    rw [modrm_and_append, BitVec.and_zero, BitVec.and_zero, show sub3 &&& 7#3 = sub3 from BitVec.and_allOnes]
    rfl
  have hmod : (memWord g sub3 m).extractLsb' 6 2 = m.mod :=
    (BitVec.extractLsb'_append_eq_of_add_le (by decide)).trans (modField_append m.mod sub3 m.rm)
  simpa [rowMatches, memRow, hmask, hmod] using m.wf_iff.mp hm

theorem rowMatches_indexedRow (g hi lo : BitVec 3) : rowMatches (indexedRow g hi) (regWord g hi lo) = true := by
  have hmask : regWord g hi lo &&& 0xFFF8#16 = regWord g hi 0#3 := by
    refine (pairWord_and_append g _ (3#2 ++ 7#3 ++ 0#3)).trans ?_
    rw [modrm_and_append, BitVec.and_zero, show hi &&& 7#3 = hi from BitVec.and_allOnes]
    rfl
  simp [rowMatches, indexedRow, hmask]

theorem rowMatches_fixedRow (g hi lo : BitVec 3) : rowMatches (fixedRow g hi lo) (regWord g hi lo) = true := by
  have hmask : regWord g hi lo &&& 0xFFFF#16 = regWord g hi lo := BitVec.and_allOnes
  simp [rowMatches, fixedRow, hmask]

theorem isDefinedWord_of_row {r : OpcodeRow} {w : Word16} (hr : r ∈ opcodeRows) (hw : rowMatches r w = true) :
    isDefinedWord w = true := List.any_eq_true.mpr ⟨r, hr, hw⟩

/-! ### The dispatchers against the map: one case for each sub-opcode -/

/-- A memory sub-opcode without a row decodes to nothing, under any addressing fields (30_encoding.md R78). -/
theorem memRow_mem_or_decodeMem_none : ∀ g sub3 : BitVec 3,
    memRow g sub3 ∈ opcodeRows ∨ ∀ mod rm, decodeMem g sub3 ⟨mod, rm⟩ = none := by decide +kernel

/-- A register sub-opcode without a row, for its family or its own, decodes to nothing (30_encoding.md R78). -/
theorem regRow_mem_or_decodeReg_none : ∀ g hi : BitVec 3,
    indexedRow g hi ∈ opcodeRows ∨ ∀ lo, fixedRow g hi lo ∈ opcodeRows ∨ decodeReg g hi lo = none := by decide +kernel

theorem decodeMem_eq_none {g sub3 : BitVec 3} {m : AddrMode} (hm : m.wf = true)
    (h : isDefinedWord (memWord g sub3 m) = false) : decodeMem g sub3 m = none := by
  rcases memRow_mem_or_decodeMem_none g sub3 with hr | hnone
  · simp [isDefinedWord_of_row hr (rowMatches_memRow g sub3 hm)] at h
  · exact hnone m.mod m.rm

theorem decodeReg_eq_none {g hi lo : BitVec 3} (h : isDefinedWord (regWord g hi lo) = false) : decodeReg g hi lo = none := by
  rcases regRow_mem_or_decodeReg_none g hi with hr | hfamily
  · simp [isDefinedWord_of_row hr (rowMatches_indexedRow g hi lo)] at h
  · rcases hfamily lo with hr | hnone
    · simp [isDefinedWord_of_row hr (rowMatches_fixedRow g hi lo)] at h
    · exact hnone

theorem undefined_wellFormed_iff (g : BitVec 3) (modrm : Byte) :
    (Instr.undefined g modrm).WellFormed ↔ isDefinedWord (pairWord g modrm) = false := by
  rw [Instr.WellFormed, Instr.wf, Bool.not_eq_true']

/-- A pair outside the opcode map decodes to the undefined instruction of its own group and `modrm` (30_encoding.md R78). -/
theorem decodeWord_of_not_defined (g : BitVec 3) (modrm : Byte) (h : isDefinedWord (pairWord g modrm) = false) :
    decodeWord (pairWord g modrm) = .ok (.undefined g modrm) := by
  obtain ⟨a, b, c, rfl⟩ : ∃ (a : BitVec 2) (b c : BitVec 3), modrm = a ++ b ++ c := ⟨_, _, _, (modrm_eq_append modrm).symm⟩
  by_cases ha : a = 3#2
  · subst ha
    have hword := decodeWord_regWord g b c
    rwa [decodeReg_eq_none h] at hword
  · have hm : AddrMode.wf ⟨a, c⟩ = true := (AddrMode.wf_iff _).mpr ha
    have hword := decodeWord_memWord g b hm
    rwa [decodeMem_eq_none hm h] at hword

/-- Settles O1: a memory or register form by its group's dispatcher, an undefined pair by the opcode map. -/
theorem decodeOfEncodeIsTheInstruction : Obligations.DecodeOfEncodeIsTheInstruction := by
  intro i hi
  cases i with
  | faddM32 | fmulM32 | fcomM32 | fcompM32 | fsubM32 | fsubrM32 | fdivM32 | fdivrM32
  | fldM32 | fstM32 | fstpM32 | fldcwM16 | fnstenvM14 | fnstcwM16
  | faddM64 | fmulM64 | fcomM64 | fcompM64 | fsubM64 | fsubrM64 | fdivM64 | fdivrM64
  | fldM64 | fstM64 | fstpM64 | fnstswM16 | fildM64 | fistpM64 => exact decodeWord_memWord _ _ hi
  | undefined g modrm => exact decodeWord_of_not_defined g modrm ((undefined_wellFormed_iff g modrm).mp hi)
  | _ => exact decodeWord_regWord _ _ _

end Sys2Proof
end

section
/-! An instruction presented to a halted block. -/

namespace Sys2Proof.Machine

/-- A halted block takes no effect from a presented instruction (60_exceptions.md R327): the latch is tested before decoding. -/
theorem accept_of_halted (p : Presented) {s : State} (hs : s.halted = true) : accept p s = .next s := if_pos hs

/-- A step takes the next input of the host (00_scope.md R9). -/
theorem step_of_inputs_cons {s : State} {h : HostInput} {rest : List HostInput} (hi : s.inputs = h :: rest) :
    step s = takeInput h (s.setInputs rest) := by
  rw [step, hi]

/-- Settles O48: the step accepts the instruction on a block that is halted still. -/
theorem haltedBlockIgnoresInstructions : Obligations.HaltedBlockIgnoresInstructions := by
  intro p s rest hs hi
  have hrest : (s.setInputs rest).halted = true := hs
  calc step s = accept p (s.setInputs rest) := step_of_inputs_cons hi
    _ = .next (s.setInputs rest) := accept_of_halted p hrest

end Sys2Proof.Machine
end

section
/-! The primitives of the register-stack controller (40_stack_controller.md): what `push`, `pop` and an indexed write change, and
their frames. -/

namespace Sys2Proof.Machine

/-- Circular indexing is the sum modulo 8 (R100). -/
theorem State.phys_toNat (s : State) (i : StackIndex) : (s.phys i).toNat = (s.top.toNat + i.toNat) % 8 := BitVec.toNat_add _ _

/-! ### Frames -/

/-- A write seen at one slot keeps every other slot. -/
theorem slotsKeptExcept_of_slot_eq_ite {s t : State} {p : StackIndex} {v : Slot}
    (h : ∀ q : StackIndex, t.slot q = if p = q then v else s.slot q) : SlotsKeptExcept s t [p] := by
  intro q hq
  have hne : p ≠ q := fun e => hq (List.mem_singleton.mpr e.symm)
  rw [h q, if_neg hne]

/-- An indexed write writes one slot, moves neither `top` nor a tag, and has no traffic (R104). -/
theorem onlyRegisterWritten_setSt (s : State) (i : StackIndex) (v : Slot) : OnlyRegisterWritten s (s.setSt i v) i [] :=
  ⟨slotsKeptExcept_of_slot_eq_ite (s.slot_setSt i · v), ⟨rfl, rfl⟩, rfl, rfl, rfl, ⟨rfl, rfl, rfl, rfl, rfl, rfl, rfl⟩, fun _ => rfl,
    (List.append_nil _).symm⟩

/-- A push writes one slot, the one below the old top, changes no tag, and has no traffic (R101). -/
theorem onlyPushed_push (s : State) (v : Slot) : OnlyPushed s (s.push v) [] :=
  ⟨rfl, slotsKeptExcept_of_slot_eq_ite (s.slot_push v), rfl, rfl, rfl, rfl, ⟨rfl, rfl, rfl, rfl, rfl, rfl, rfl⟩, fun _ => rfl,
    (List.append_nil _).symm⟩

/-- One pop empties the tag of the old top, and no other (R102). -/
theorem popped_popState (s : State) : Popped s s.popState [s.top] := by
  refine ⟨rfl, fun p hp => ?_, fun p hp => ?_⟩
  · obtain rfl := List.mem_singleton.mp hp
    exact tagOf_emptyTag_self s.tw s.top
  · exact tagOf_emptyTag_of_ne s.tw fun e => hp (List.mem_singleton.mpr e)

/-! ### The primitives -/

/-- Settles O6: the slot read at the new top, and the frame of a push. -/
theorem pushWritesTheNewTop : Obligations.PushWritesTheNewTop := fun s v =>
  ⟨s.push_top v, (s.slot_push v (s.top - 1#3)).trans (if_pos rfl), onlyPushed_push s v⟩

/-- Settles O7: `pop` is the old top's value beside `popState`, which writes `top` and the tag word only. -/
theorem popMarksTheOldTopEmpty : Obligations.PopMarksTheOldTopEmpty := fun s =>
  ⟨s.pop_fst, popped_popState s, fun _ _ => rfl, rfl, rfl, rfl, ⟨rfl, rfl, rfl, rfl, rfl, rfl, rfl⟩, fun _ => rfl, rfl⟩

/-- Settles O8: the slot read after the write, and the frame of an indexed write. -/
theorem indexedAccessIsModuloEight : Obligations.IndexedAccessIsModuloEight := fun s i v =>
  ⟨s.phys_toNat i, s.st_eq_slot i, (s.slot_setSt i (s.phys i) v).trans (if_pos rfl), onlyRegisterWritten_setSt s i v⟩

end Sys2Proof.Machine
end

section
/-! The arithmetic family (42_arithmetic.md): six operations in five forms.

A form reads its source operand and then writes one register. What reading an operand leaves of the state is said once, by
`State.afterOperand`; what the D8 and DC forms do after it, by `arithInto_effect`, and what the pop forms do, by `arithPop_effect`, each
for every operation. An obligation is the form's lemma at its instructions. -/

namespace Sys2Proof.Machine

/-! ### Reading an operand -/

/-- The state after a source operand is read: what reading it did at the ports is recorded, and `n` draws have been taken. -/
def State.afterOperand (s : State) (traffic : List PortEvent) (n : Nat) : State :=
  { s with outputs := s.outputs ++ traffic, draws := n }

theorem loadF32_eq (s : State) (ea : Addr) :
    loadF32 s ea = (Num.f32ToF64 ((s.busValue ea .w32).setWidth 32) s.draw, s.afterOperand [.memRead ea .w32] (s.draws + 1)) := rfl

theorem loadF64_eq (s : State) (ea : Addr) :
    loadF64 s ea = (s.busValue ea .w64, s.afterOperand [.memRead ea .w64] s.draws) := rfl

/-- A register operand takes no bus access and no draw. -/
theorem State.afterOperand_nil (s : State) : s.afterOperand [] s.draws = s := by
  simp [State.afterOperand]

/-- The traffic of the operand and an indexed write make one frame. -/
theorem OnlyRegisterWritten.of_afterOperand {s t : State} {i : StackIndex} {traffic : List PortEvent} {n : Nat}
    (h : OnlyRegisterWritten (s.afterOperand traffic n) t i []) : OnlyRegisterWritten s t i traffic := by
  obtain ⟨hslots, hstack, hcw, hsw, hax, hrest, hmem, hout⟩ := h
  exact ⟨hslots, hstack, hcw, hsw, hax, hrest, hmem, hout.trans (List.append_nil _)⟩

/-- The class 2 fatal writes the latch and the report only (60_exceptions.md R322, R326). -/
theorem zeroDivideFatal_afterOperand (s : State) (traffic : List PortEvent) (n : Nat) :
    ZeroDivideFatal s (s.afterOperand traffic n).raiseZeroDivide traffic :=
  ⟨⟨rfl, rfl, rfl, rfl, rfl, rfl, rfl, rfl, rfl, rfl, rfl, rfl⟩, rfl, rfl, rfl⟩

/-! ### The D8 and DC forms -/

/-- What a D8 or DC form does to `s`, with the source operand `src` and the draw `nan`: the class 2 fatal on a zero divisor, and
otherwise the result in `ST(i)` and nothing else (R141 to R143, R145). -/
def ArithEffect (op : ArithOp) (i : StackIndex) (src nan : Slot) (traffic : List PortEvent) (s t : State) : Prop :=
  if zeroDivisor op (s.st i) src then ZeroDivideFatal s t traffic
  else t.st i = arithValue op (s.st i) src nan ∧ OnlyRegisterWritten s t i traffic

theorem arithInto_effect (op : ArithOp) (i : StackIndex) (src : Slot) (s : State) (traffic : List PortEvent) (n : Nat) :
    ArithEffect op i src (Config.draw64 n) traffic s (arithInto op i src (s.afterOperand traffic n)) := by
  unfold ArithEffect
  split
  next hzero =>
    rw [arithInto_of_zeroDivisor (s := s.afterOperand traffic n) hzero]
    exact zeroDivideFatal_afterOperand s traffic n
  next hdivisor =>
    rw [arithInto_of_divisor (s := s.afterOperand traffic n) (Bool.eq_false_iff.mpr hdivisor)]
    exact ⟨(State.st_setSt _ i i _).trans (if_pos rfl), (onlyRegisterWritten_setSt (s.afterOperand traffic n) i _).of_afterOperand⟩

theorem arithM32_effect (op : ArithOp) (s : State) :
    ∃ (t : State) (d e : Slot), arithM32 op s = .next t
      ∧ ArithEffect op 0#3 (Num.f32ToF64 ((s.busValue s.port.ea .w32).setWidth 32) d) e [.memRead s.port.ea .w32] s t :=
  ⟨_, s.draw, Config.draw64 (s.draws + 1), by rw [arithM32, loadF32_eq], arithInto_effect ..⟩

theorem arithM64_effect (op : ArithOp) (s : State) :
    ∃ (t : State) (e : Slot), arithM64 op s = .next t
      ∧ ArithEffect op 0#3 (s.busValue s.port.ea .w64) e [.memRead s.port.ea .w64] s t :=
  ⟨_, s.draw, by rw [arithM64, loadF64_eq], arithInto_effect ..⟩

/-- Both register forms: the destination `ST(i)`, the source another register's value. -/
theorem arithInto_register_effect (op : ArithOp) (i : StackIndex) (src : Slot) (s : State) :
    ArithEffect op i src s.draw [] s (arithInto op i src s) := by
  have h : ArithEffect op i src s.draw [] s (arithInto op i src (s.afterOperand [] s.draws)) := arithInto_effect ..
  rwa [s.afterOperand_nil] at h

theorem arithStSti_effect (op : ArithOp) (i : StackIndex) (s : State) :
    ∃ (t : State) (e : Slot), arithStSti op i s = .next t ∧ ArithEffect op 0#3 (s.st i) e [] s t :=
  ⟨_, s.draw, rfl, arithInto_register_effect op 0#3 (s.st i) s⟩

theorem arithStiSt_effect (op : ArithOp) (i : StackIndex) (s : State) :
    ∃ (t : State) (e : Slot), arithStiSt op i s = .next t ∧ ArithEffect op i (s.st 0#3) e [] s t :=
  ⟨_, s.draw, rfl, arithInto_register_effect op i (s.st 0#3) s⟩

/-! ### The pop forms -/

/-- An indexed write and then a pop: the pop writes no slot, so the frame is that of the write with one tag emptied (R144). -/
theorem registerWrittenAndPopped_setSt (s : State) (i : StackIndex) (v : Slot) :
    RegisterWrittenAndPopped s (s.setSt i v).afterDraw.popState i :=
  ⟨slotsKeptExcept_of_slot_eq_ite (s.slot_setSt i · v), popped_popState (s.setSt i v).afterDraw, rfl, rfl, rfl,
    ⟨rfl, rfl, rfl, rfl, rfl, rfl, rfl⟩, fun _ => rfl, rfl⟩

theorem arithPop_effect (op : ArithOp) (i : StackIndex) (s : State) :
    ∃ (t : State) (e : Slot), arithPop op i s = .next t
      ∧ t.slot (s.phys i) = popValue op s.zeroDivideMasked (s.st i) (s.st 0#3) e ∧ RegisterWrittenAndPopped s t i :=
  ⟨_, s.draw, rfl, (s.slot_setSt i (s.phys i) _).trans (if_pos rfl), registerWrittenAndPopped_setSt s i _⟩

/-- `PopDivide` with its masked infinity written by the operands' signs (R146). -/
theorem popDivide_eq (masked : Bool) (n dv d : Slot) :
    popDivide masked n dv d = if Num.isZero dv then (if masked then Num.inf64 (n.msb ^^ dv.msb) else d) else Num.fdiv n dv d := by
  cases hz : Num.isZero dv with
  | false => exact popDivide_of_divisor hz
  | true =>
    cases masked with
    | false => exact popDivide_unmasked hz
    | true => exact popDivide_masked hz

/-! ### The four operations that do not divide

`zeroDivisor` is `false` of each by definition, so `ArithEffect` is its second branch. -/

theorem forall_mem_four {α : Type} {P : α → Prop} {a b c d : α} (ha : P a) (hb : P b) (hc : P c) (hd : P d) :
    ∀ p ∈ [a, b, c, d], P p := by
  simp [ha, hb, hc, hd]

/-- Settles O10: the short memory form, at the four operations that do not divide. -/
theorem shortMemoryArithmetic : Obligations.ShortMemoryArithmetic := fun _ s =>
  forall_mem_four (arithM32_effect .add s) (arithM32_effect .mul s) (arithM32_effect .sub s) (arithM32_effect .subr s)

/-- Settles O11: the long memory form. -/
theorem longMemoryArithmetic : Obligations.LongMemoryArithmetic := fun _ s =>
  forall_mem_four (arithM64_effect .add s) (arithM64_effect .mul s) (arithM64_effect .sub s) (arithM64_effect .subr s)

/-- Settles O12: the register form `ST, ST(i)`. -/
theorem topRegisterArithmetic : Obligations.TopRegisterArithmetic := fun i s =>
  forall_mem_four (arithStSti_effect .add i s) (arithStSti_effect .mul i s) (arithStSti_effect .sub i s)
    (arithStSti_effect .subr i s)

/-- Settles O13: the register form `ST(i), ST`. -/
theorem indexedRegisterArithmetic : Obligations.IndexedRegisterArithmetic := fun i s =>
  forall_mem_four (arithStiSt_effect .add i s) (arithStiSt_effect .mul i s) (arithStiSt_effect .sub i s)
    (arithStiSt_effect .subr i s)

/-- Settles O14: the pop form, whose value is `Op(d, s)` for these operations. -/
theorem popArithmetic : Obligations.PopArithmetic := fun i s =>
  forall_mem_four (arithPop_effect .add i s) (arithPop_effect .mul i s) (arithPop_effect .sub i s) (arithPop_effect .subr i s)

/-! ### The two divides

The divisor is the source of a divide and the destination of a reversed one (R145). -/

/-- Settles O15: the two memory forms. -/
theorem memoryDivide : Obligations.MemoryDivide := fun _ s =>
  ⟨arithM32_effect .div s, arithM32_effect .divr s, arithM64_effect .div s, arithM64_effect .divr s⟩

/-- Settles O16: the two register forms. -/
theorem registerDivide : Obligations.RegisterDivide := fun i s =>
  ⟨arithStSti_effect .div i s, arithStSti_effect .divr i s, arithStiSt_effect .div i s, arithStiSt_effect .divr i s⟩

/-- Settles O17: the pop form, whose value is `PopDivide` of the dividend and the divisor. -/
theorem popDivideNeverStops : Obligations.PopDivideNeverStops := by
  intro i s
  obtain ⟨t, e, hexec, hvalue, hframe⟩ := arithPop_effect .div i s
  obtain ⟨t', e', hexec', hvalue', hframe'⟩ := arithPop_effect .divr i s
  exact ⟨⟨t, e, hexec, hvalue.trans (popDivide_eq ..), hframe⟩, ⟨t', e', hexec', hvalue'.trans (popDivide_eq ..), hframe'⟩⟩

end Sys2Proof.Machine
end

section
/-! The comparisons of one operand (43_compare.md): FCOM and FCOMP with a memory and with a register operand.

Every form reads an operand and then writes the condition codes, by `compareWith`; a form that pops does so last. The bits of the status
word are said once (`compareWord_c3`, `compareWord_c0`, `compareWord_c2`), the effect of `compareWith` once for all operands
(`compareWith_effect`), and a pop is put after any of them by `StackStays.popped` and `OnlyCompared.popState`. -/

namespace Sys2Proof.Machine

/-! ### The condition codes -/

/-- C3, bit 14, is 'equal' (R190). -/
theorem compareWord_c3 (sw : Word16) (a b : Slot) : (compareWord sw a b).getLsbD 14 = Num.feq a b := by
  rw [getLsbD_compareWord]
  simp

/-- C0, bit 8, is 'less' (R190). -/
theorem compareWord_c0 (sw : Word16) (a b : Slot) : (compareWord sw a b).getLsbD 8 = Num.flt a b := by
  rw [getLsbD_compareWord]
  simp

/-- C2, bit 10, is cleared whatever the operands, NaNs included (R191). -/
theorem compareWord_c2 (sw : Word16) (a b : Slot) : (compareWord sw a b).getLsbD 10 = false := by
  rw [getLsbD_compareWord]
  simp

/-! ### A comparison, and a pop after it -/

/-- After its operand is read, a comparison writes the status word only: the stack stays, and the traffic is the operand's. -/
theorem compareWith_effect (b : Slot) (s : State) (traffic : List PortEvent) (n : Nat) :
    StackStays s (compareWith b (s.afterOperand traffic n))
      ∧ OnlyCompared s (compareWith b (s.afterOperand traffic n)) (s.st 0#3) b traffic :=
  ⟨⟨rfl, rfl⟩, compareWord_c3 .., compareWord_c0 .., compareWord_c2 .., compareWord_and_keep .., fun _ _ => rfl, rfl, rfl,
    ⟨rfl, rfl, rfl, rfl, rfl, rfl, rfl⟩, fun _ => rfl, rfl⟩

/-- The first pop after the stack stayed empties the tag of the old top. -/
theorem StackStays.popped {s t : State} (h : StackStays s t) : Popped s t.popState [s.top] := by
  obtain ⟨htop, htw⟩ := h
  have hpop : Popped t t.popState [t.top] := popped_popState t
  rwa [Popped, htop, htw] at hpop

/-- A pop writes `top` and the tag word only, which `OnlyCompared` leaves to the caller (R102). -/
theorem OnlyCompared.popState {s t : State} {a b : Slot} {traffic : List PortEvent} (h : OnlyCompared s t a b traffic) :
    OnlyCompared s t.popState a b traffic := h

/-! ### The forms -/

theorem compareM32_effect (s : State) :
    StackStays s (compareM32 s) ∧ OnlyCompared s (compareM32 s) (s.st 0#3) (f32Operand s s.port.ea) [.memRead s.port.ea .w32] := by
  rw [compareM32, loadF32_eq]
  exact compareWith_effect ..

theorem compareM64_effect (s : State) :
    StackStays s (compareM64 s) ∧ OnlyCompared s (compareM64 s) (s.st 0#3) (f64Operand s s.port.ea) [.memRead s.port.ea .w64] := by
  rw [compareM64, loadF64_eq]
  exact compareWith_effect ..

theorem compareSti_effect (i : StackIndex) (s : State) :
    StackStays s (compareWith (s.st i) s) ∧ OnlyCompared s (compareWith (s.st i) s) (s.st 0#3) (s.st i) [] := by
  have h := compareWith_effect (s.st i) s [] s.draws
  rwa [s.afterOperand_nil] at h

/-- Settles O19: each memory operand compared, without and with a pop; the draw of the short form is the one the widening takes. -/
theorem memoryCompare : Obligations.MemoryCompare := fun _ s =>
  ⟨⟨compareM32 s, s.draw, rfl, compareM32_effect s⟩,
    ⟨(compareM32 s).popState, s.draw, rfl, (compareM32_effect s).imp StackStays.popped OnlyCompared.popState⟩,
    ⟨compareM64 s, rfl, compareM64_effect s⟩,
    ⟨(compareM64 s).popState, rfl, (compareM64_effect s).imp StackStays.popped OnlyCompared.popState⟩⟩

/-- Settles O20: the register operand compared, without and with a pop. -/
theorem registerCompare : Obligations.RegisterCompare := fun i s =>
  ⟨⟨compareWith (s.st i) s, rfl, compareSti_effect i s⟩,
    ⟨(compareWith (s.st i) s).popState, rfl, (compareSti_effect i s).imp StackStays.popped OnlyCompared.popState⟩⟩

end Sys2Proof.Machine
end

section
/-! Loads and stores (44_load_store_convert.md).

A load reads its operand and pushes: its frame is that of a push from `State.afterOperand` (`push_afterOperand_effect`). A store is one
bus write, after which a form that pops does so (`storeF32_effect`, `storeF64_effect`, `OnlyStored.popState`). FSTP after FLD at the same
address writes back the number the read returned, whose bytes are those of memory (`OnlyStored.memoryKept`). -/

namespace Sys2Proof.Machine

/-! ### Loads -/

theorem loadI64_eq (s : State) (ea : Addr) :
    loadI64 s ea = (Num.i64ToF64 (s.busValue ea .w64), s.afterOperand [.memRead ea .w64] s.draws) := rfl

/-- The traffic of the operand and a push make one frame. -/
theorem OnlyPushed.of_afterOperand {s t : State} {traffic : List PortEvent} {n : Nat}
    (h : OnlyPushed (s.afterOperand traffic n) t []) : OnlyPushed s t traffic := by
  obtain ⟨htop, hslots, htw, hcw, hsw, hax, hrest, hmem, hout⟩ := h
  exact ⟨htop, hslots, htw, hcw, hsw, hax, hrest, hmem, hout.trans (List.append_nil _)⟩

/-- What a load does after its operand is read (R210). -/
theorem push_afterOperand_effect (s : State) (v : Slot) (traffic : List PortEvent) (n : Nat) :
    ((s.afterOperand traffic n).push v).st 0#3 = v ∧ OnlyPushed s ((s.afterOperand traffic n).push v) traffic :=
  ⟨State.st_push_zero _ v, (onlyPushed_push _ v).of_afterOperand⟩

theorem exec_fldM32 (m : AddrMode) (s : State) :
    exec (.fldM32 m) s = .next ((loadF32 s s.port.ea).2.push (loadF32 s s.port.ea).1) := rfl

theorem exec_fldM64 (m : AddrMode) (s : State) :
    exec (.fldM64 m) s = .next ((loadF64 s s.port.ea).2.push (loadF64 s s.port.ea).1) := rfl

theorem exec_fildM64 (m : AddrMode) (s : State) :
    exec (.fildM64 m) s = .next ((loadI64 s s.port.ea).2.push (loadI64 s s.port.ea).1) := rfl

/-- Settles O23: each load pushes the operand its accessor answers; the draw of the short form is the one the widening takes. -/
theorem memoryLoads : Obligations.MemoryLoads := fun m s =>
  ⟨⟨_, s.draw, by rw [exec_fldM32, loadF32_eq], push_afterOperand_effect ..⟩,
    ⟨_, by rw [exec_fldM64, loadF64_eq], push_afterOperand_effect ..⟩,
    ⟨_, by rw [exec_fildM64, loadI64_eq], push_afterOperand_effect ..⟩⟩

/-! ### Stores -/

/-- A memory form's word is its escape byte and, with a `mod` that is not 3, its `sub3` (30_encoding.md R72, R74, R77). -/
theorem encodedInMemoryForm_of_memWord {i : Instr} {g sub3 : BitVec 3} {m : AddrMode} (hi : encode i = memWord g sub3 m)
    (hm : m.wf = true) : EncodedInMemoryForm i (0b11011#5 ++ g) sub3 := by
  rw [EncodedInMemoryForm, hi]
  have hmod : (memWord g sub3 m).extractLsb' 6 2 = m.mod :=
    (BitVec.extractLsb'_append_eq_of_add_le (by decide)).trans (modField_append m.mod sub3 m.rm)
  have hsub3 : (memWord g sub3 m).extractLsb' 3 3 = sub3 :=
    (BitVec.extractLsb'_append_eq_of_add_le (by decide)).trans (sub3Field_append m.mod sub3 m.rm)
  exact ⟨pairWord_escByte g _, hmod ▸ m.wf_iff.mp hm, hsub3⟩

/-- `StoreF32` is one write of the single view, and a draw (R211, R216). -/
theorem storeF32_effect (s : State) (ea : Addr) (x : Slot) (hm : s.mem.wf = true) :
    StackStays s (storeF32 s ea x) ∧ OnlyStored s (storeF32 s ea x) ea .w32 ((Num.f64ToF32 x s.draw).setWidth 64) :=
  ⟨⟨rfl, rfl⟩, onlyStored_busWrite s ea .w32 _ hm⟩

/-- `StoreF64` is one write of the slot itself (R211, R217). -/
theorem storeF64_effect (s : State) (ea : Addr) (x : Slot) (hm : s.mem.wf = true) :
    StackStays s (storeF64 s ea x) ∧ OnlyStored s (storeF64 s ea x) ea .w64 x :=
  ⟨⟨rfl, rfl⟩, onlyStored_busWrite s ea .w64 x hm⟩

/-- A pop writes `top` and the tag word only, which `OnlyStored` leaves to the caller (R102). -/
theorem OnlyStored.popState {s t : State} {ea : Addr} {w : AccessWidth} {v : BitVec 64} (h : OnlyStored s t ea w v) :
    OnlyStored s t.popState ea w v := h

/-- Settles O25: the encodings, and `ST(0)` stored in each format. -/
theorem floatStores : Obligations.FloatStores := fun _ s hmem =>
  ⟨fun hm => ⟨encodedInMemoryForm_of_memWord (g := 1#3) rfl hm, encodedInMemoryForm_of_memWord (g := 5#3) rfl hm⟩,
    ⟨storeF32 s s.port.ea (s.st 0#3), s.draw, rfl, storeF32_effect s _ _ hmem⟩,
    ⟨storeF64 s s.port.ea (s.st 0#3), rfl, storeF64_effect s _ _ hmem⟩⟩

/-- Settles O26: the encodings, and the same stores with a pop after each. -/
theorem floatStoresAndPop : Obligations.FloatStoresAndPop := fun _ s hmem =>
  ⟨fun hm => ⟨encodedInMemoryForm_of_memWord (g := 1#3) rfl hm, encodedInMemoryForm_of_memWord (g := 5#3) rfl hm⟩,
    ⟨(storeF32 s s.port.ea (s.st 0#3)).popState, s.draw, rfl,
      (storeF32_effect s _ _ hmem).imp StackStays.popped OnlyStored.popState⟩,
    ⟨(storeF64 s s.port.ea (s.st 0#3)).popState, rfl,
      (storeF64_effect s _ _ hmem).imp StackStays.popped OnlyStored.popState⟩⟩

/-! ### A load, and a store of what was loaded -/

/-- Storing at an address what a read of the same width there returns keeps every byte: those inside the access are bytes of the value
read, and no other is written. -/
theorem OnlyStored.memoryKept {s t : State} {ea : Addr} {w : AccessWidth} (h : OnlyStored s t ea w (s.busValue ea w)) :
    MemoryKept s t := by
  obtain ⟨hinside, houtside, -⟩ := h
  intro a
  rcases Nat.lt_or_ge (a - ea).toNat w.bytes with hlt | hge
  · have ha : a = ea + BitVec.ofNat 32 (a - ea).toNat := by
      rw [BitVec.ofNat_toNat, BitVec.setWidth_eq, BitVec.add_comm, BitVec.sub_add_cancel]
    obtain ⟨k, rfl, hk⟩ : ∃ k : Nat, a = ea + BitVec.ofNat 32 k ∧ k < w.bytes := ⟨_, ha, hlt⟩
    calc t.byteAt (ea + BitVec.ofNat 32 k) = (s.busValue ea w).extractLsb' (8 * k) 8 := hinside k hk
      _ = s.byteAt (ea + BitVec.ofNat 32 k) := (busReadIsLittleEndian s ea w k).trans (if_pos hk)
  · exact houtside a hge

theorem exec_fstpM64 (m : AddrMode) (s : State) : exec (.fstpM64 m) s = .next (storeF64 s s.port.ea (s.st 0#3)).popState := rfl

/-- Settles O28: after the load `ST(0)` is what a read at `ea` still returns, so the store keeps memory; the push and the pop move `top`
there and back. -/
theorem doubleLoadStoreIsTheIdentity : Obligations.DoubleLoadStoreIsTheIdentity := by
  intro m m' s t u hmem hload hstore
  have hpush : t.top = s.top + 7#3 := topMovesByPushAndPopOnly _ _ _ hload
  have hpop : u.top = t.top + 1#3 := topMovesByPushAndPopOnly _ _ _ hstore
  have htop : u.top = s.top := by
    rw [hpop, hpush, BitVec.add_assoc]
    exact BitVec.add_zero s.top
  rw [exec_fldM64, loadF64_eq, Host.Outcome.next.injEq] at hload
  rw [exec_fstpM64, Host.Outcome.next.injEq] at hstore
  subst hload hstore
  refine ⟨?_, htop⟩
  have hstored := (storeF64_effect _ s.port.ea (s.busValue s.port.ea .w64) hmem).2.popState
  rw [State.st_push_zero]
  exact hstored.memoryKept

end Sys2Proof.Machine
end

section
/-! The two transcendentals over their open functions (46_transcendental.md).

F2XM1 is an indexed write of `ST(0)`, FYL2X one of `ST(1)` with a pop after it. What each answers is that write's frame and no more, so
neither goes on into the push of a constant (R259). -/

namespace Sys2Proof.Machine

theorem exec_f2xm1 (s : State) : exec .f2xm1 s = .next (s.setSt 0#3 (Config.fn2xm1 (s.st 0#3))) := rfl

theorem exec_fyl2x (s : State) :
    exec .fyl2x s
      = .next (s.setSt 1#3 (Num.fmul (s.st 1#3) (Config.fnLog2 (s.st 0#3)) s.draw)).afterDraw.popState := rfl

/-- What is written into `ST(1)` before a pop is the new `ST(0)` after it (R257). -/
theorem State.st_zero_setSt_one_popState (s : State) (v : Slot) : (s.setSt 1#3 v).afterDraw.popState.st 0#3 = v :=
  calc (s.setSt 1#3 v).afterDraw.popState.st 0#3 = (s.setSt 1#3 v).st 1#3 := State.st_popState _ 0#3
    _ = v := (s.st_setSt 1#3 1#3 v).trans (if_pos rfl)

/-- Settles O32: F2XM1 by the frame of an indexed write, FYL2X by that of an indexed write and a pop; the draw is the one the
multiplication takes. -/
theorem transcendentalsEndAfterTheirEffect : Obligations.TranscendentalsEndAfterTheirEffect := fun s =>
  ⟨⟨_, exec_f2xm1 s, (s.st_setSt 0#3 0#3 _).trans (if_pos rfl), onlyRegisterWritten_setSt s 0#3 _⟩,
    ⟨_, s.draw, exec_fyl2x s, s.st_zero_setSt_one_popState _, registerWrittenAndPopped_setSt s 1#3 _⟩⟩

end Sys2Proof.Machine
end

section
/-! The control word at the bus, the exception flags and FSETPM (47_environment_control.md).

FLDCW is one 2-byte read and a write of the control word, FNSTCW one 2-byte write (`store16_effect`). FNCLEX writes the status word
only, and its mask is said by bytes: the low one cleared (`clearExceptions_low`), the high one kept (`clearExceptions_high`). -/

namespace Sys2Proof.Machine

/-! ### The control word -/

theorem exec_fldcwM16 (m : AddrMode) (s : State) :
    exec (.fldcwM16 m) s = .next ((s.busRead s.port.ea .w16).setCw ((s.busValue s.port.ea .w16).setWidth 16)) := rfl

theorem exec_fnstcwM16 (m : AddrMode) (s : State) : exec (.fnstcwM16 m) s = .next (store16 s s.port.ea s.cw) := rfl

/-- `Store16` is one write of the word itself (R124). -/
theorem store16_effect (s : State) (ea : Addr) (w : Word16) (hm : s.mem.wf = true) :
    StackStays s (store16 s ea w) ∧ OnlyStored s (store16 s ea w) ea .w16 (w.setWidth 64) :=
  ⟨⟨rfl, rfl⟩, onlyStored_busWrite s ea .w16 _ hm⟩

/-- Settles O33: the encodings, the word read and written into `CW` with nothing else touched, and the frame of a 2-byte store. -/
theorem controlWordLoadAndStore : Obligations.ControlWordLoadAndStore := fun m s =>
  ⟨fun hm => ⟨encodedInMemoryForm_of_memWord (g := 1#3) rfl hm, encodedInMemoryForm_of_memWord (g := 1#3) rfl hm⟩,
    ⟨_, exec_fldcwM16 m s, rfl, rfl, fun _ _ => rfl, ⟨rfl, rfl⟩, rfl, ⟨rfl, rfl, rfl, rfl, rfl, rfl, rfl⟩, fun _ => rfl, rfl⟩,
    fun hmem => ⟨_, exec_fnstcwM16 m s, store16_effect s s.port.ea s.cw hmem⟩⟩

/-! ### The exception flags -/

theorem exec_fnclex (s : State) : exec .fnclex s = .next (s.setSw (clearExceptions s.sw)) := rfl

theorem exec_fsetpm (s : State) : exec .fsetpm s = .next s := rfl

/-- The exception flags, the stack-fault bit and the error summary are cleared (R272). -/
theorem clearExceptions_low (sw : Word16) : (clearExceptions sw).extractLsb' 0 8 = 0#8 :=
  calc (clearExceptions sw).extractLsb' 0 8 = sw.extractLsb' 0 8 &&& 0x00#8 := BitVec.extractLsb'_and
    _ = 0#8 := BitVec.and_zero

/-- The condition codes, the stored top field and the busy bit are kept (R272). -/
theorem clearExceptions_high (sw : Word16) : (clearExceptions sw).extractLsb' 8 8 = sw.extractLsb' 8 8 :=
  calc (clearExceptions sw).extractLsb' 8 8 = sw.extractLsb' 8 8 &&& 0xFF#8 := BitVec.extractLsb'_and
    _ = sw.extractLsb' 8 8 := BitVec.and_allOnes

/-- Settles O38: the two fixed words, the two bytes of the status word FNCLEX writes, and its frame. -/
theorem clearExceptionsAndSetpm : Obligations.ClearExceptionsAndSetpm :=
  ⟨rfl, rfl, fun s =>
    ⟨⟨_, exec_fnclex s, clearExceptions_low s.sw, clearExceptions_high s.sw, fun _ _ => rfl, ⟨rfl, rfl⟩, rfl, rfl,
      ⟨rfl, rfl, rfl, rfl, rfl, rfl, rfl⟩, fun _ => rfl, rfl⟩, exec_fsetpm s⟩⟩

end Sys2Proof.Machine
end

section
/-! The magnitudes that binary64 can hold (00_scope.md R17).

`Num.Representable` says of a magnitude that a significand and an exponent of the format give it. Every finite double has one, and
packing one is exact (`Num.unpack64_pack64`), so an operation whose exact result is representable needs no word about rounding. -/

namespace Sys2Proof.Machine

/-! ### Narrowing a magnitude that fits -/

theorem Num.bitLen_le_iff (n k : Nat) : Num.bitLen n ≤ k ↔ n < 2 ^ k := by
  unfold Num.bitLen
  split
  next hzero => simp [hzero]
  next hpos => exact Nat.succ_le_iff.trans (Nat.log2_lt hpos)

theorem Num.rneShift_shiftLeft (g k : Nat) : Num.rneShift (g <<< k) k = g := by
  have hpos : 0 < 1 <<< k := by rw [Nat.one_shiftLeft]; exact Nat.two_pow_pos k
  rw [Num.rneShift, Nat.shiftLeft_shiftRight, Nat.sub_self]
  exact if_neg (by omega)

/-- The magnitudes, in least units, of a significand of at most 53 bits at an exponent of binary64. -/
def Num.Representable (n : Nat) : Prop := ∃ f k : Nat, f < 2 ^ 53 ∧ k ≤ 2045 ∧ n = f <<< k

theorem Num.representable_fieldMag {e f : Nat} (he : e < 2047) (hf : f < 2 ^ 52) : Num.Representable (Num.fieldMag 52 e f) := by
  unfold Num.fieldMag
  split
  next => exact ⟨f, 0, by omega, by omega, rfl⟩
  next => exact ⟨2 ^ 52 + f, e - 1, by omega, by omega, rfl⟩

/-- The pattern of a significand at an exponent: the significand's leading bit is carried into the exponent field. -/
theorem Num.magOfPattern_of_significand {g k : Nat} (hg : g < 2 ^ 53) (hk : k = 0 ∨ 2 ^ 52 ≤ g) :
    magOfPattern 52 (k <<< 52 + g) = g <<< k := by
  unfold magOfPattern Num.fieldMag
  rw [Nat.shiftLeft_eq k 52]
  split
  next hsubnormal =>
    obtain rfl : k = 0 := by omega
    rw [Nat.shiftLeft_zero]
    omega
  next hnormal =>
    have hge : 2 ^ 52 ≤ g := by omega
    rw [show (k * 2 ^ 52 + g) / 2 ^ 52 - 1 = k by omega, show 2 ^ 52 + (k * 2 ^ 52 + g) % 2 ^ 52 = g by omega]

/-- Narrowing a representable magnitude is exact: the bits shifted out are zeros. -/
theorem Num.roundMag_of_representable {n : Nat} (hn : Num.Representable n) :
    Num.roundMag 52 0 n < 0x7FF0000000000000 ∧ magOfPattern 52 (Num.roundMag 52 0 n) = n := by
  obtain ⟨f, k, hf, hk, rfl⟩ := hn
  obtain ⟨s, hs⟩ : ∃ s, s = Num.bitLen (f <<< k) - 53 := ⟨_, rfl⟩
  have hsk : s ≤ k := by
    have hlen : Num.bitLen (f <<< k) ≤ 53 + k := by
      rw [Num.bitLen_le_iff, Nat.shiftLeft_eq, Nat.pow_add]
      exact Nat.mul_lt_mul_of_pos_right hf (Nat.two_pow_pos k)
    omega
  have hsplit : f <<< k = (f <<< (k - s)) <<< s := by rw [← Nat.shiftLeft_add, Nat.sub_add_cancel hsk]
  have hround : Num.roundMag 52 0 (f <<< k) = s <<< 52 + f <<< (k - s) := by
    rw [Num.roundMag, ← hs, Nat.max_zero, Nat.sub_zero, hsplit, Num.rneShift_shiftLeft]
  have hlt : f <<< (k - s) < 2 ^ 53 := by
    have hlen : Num.bitLen (f <<< k) ≤ 53 + s := by omega
    rw [Num.bitLen_le_iff, hsplit, Nat.shiftLeft_eq _ s, Nat.pow_add] at hlen
    exact Nat.lt_of_mul_lt_mul_right hlen
  have hge : s = 0 ∨ 2 ^ 52 ≤ f <<< (k - s) := by
    refine or_iff_not_imp_left.mpr fun hs0 => ?_
    have hlen : ¬ Num.bitLen (f <<< k) ≤ 52 + s := by omega
    rw [Num.bitLen_le_iff, hsplit, Nat.shiftLeft_eq _ s, Nat.pow_add, Nat.not_lt] at hlen
    exact Nat.le_of_mul_le_mul_right hlen (Nat.two_pow_pos s)
  rw [hround]
  refine ⟨?_, (Num.magOfPattern_of_significand hlt hge).trans hsplit.symm⟩
  rw [Nat.shiftLeft_eq s 52]
  omega

/-- Packing a representable magnitude loses nothing. -/
theorem Num.unpack64_pack64 (neg : Bool) {n : Nat} (hn : Num.Representable n) : Num.unpack64 (Num.pack64 neg 0 n) = .fin neg n := by
  obtain ⟨hlt, hmag⟩ := Num.roundMag_of_representable hn
  rw [Num.pack64, Nat.min_eq_left hlt.le, Num.unpack64_of_pattern neg _ hlt, hmag]

/-! ### What a double stands for -/

/-- A finite double has its own sign and a representable magnitude. -/
theorem Num.msb_and_representable_of_unpack64 {x : Slot} {s : Bool} {m : Nat} (h : Num.unpack64 x = .fin s m) :
    x.msb = s ∧ Num.Representable m := by
  unfold Num.unpack64 Num.fieldValue at h
  split at h
  next => split at h <;> cases h
  next hfinite =>
    obtain ⟨rfl, rfl⟩ := Num.Fp.fin.inj h
    exact ⟨rfl, Num.representable_fieldMag (by omega) (BitVec.isLt _)⟩

theorem exactValue_eq_some {x : Slot} {v : Int} (h : exactValue x = some v) :
    ∃ s m, Num.unpack64 x = .fin s m ∧ v = Num.signedInt s m := by
  unfold exactValue fpValue at h
  split at h
  next s m hx => exact ⟨s, m, hx, (Option.some.inj h).symm⟩
  next => cases h
  next => cases h

theorem exactValue_of_unpack64 {x : Slot} {s : Bool} {m : Nat} (h : Num.unpack64 x = .fin s m) :
    exactValue x = some (Num.signedInt s m) := by
  rw [exactValue, h, fpValue]

/-! ### A NaN result -/

theorem Num.unpack64_eq_nan {x : Slot} (he : x.extractLsb' 52 11 = 0x7FF#11) (hf : x.extractLsb' 0 52 ≠ 0#52) :
    Num.unpack64 x = .nan := by
  have hne : (x.extractLsb' 0 52).toNat ≠ 0 := fun h => hf (BitVec.eq_of_toNat_eq h)
  unfold Num.unpack64 Num.fieldValue
  rw [he, if_pos (by rfl), if_neg hne]

/-- Whatever the draw is, it is forced to a NaN. -/
theorem Num.isNaN_nan64 (d : Slot) : Num.isNaN (Num.nan64 d) = true := by
  rw [Num.isNaN, beq_iff_eq, Num.nan64]
  have hexp : (d ||| Num.pinf64).extractLsb' 52 11 = 0x7FF#11 := by
    rw [BitVec.extractLsb'_or]
    exact BitVec.or_allOnes
  split
  next hzero =>
    apply Num.unpack64_eq_nan
    · rw [BitVec.extractLsb'_or, hexp]; rfl
    · rw [BitVec.extractLsb'_or, hzero]; decide
  next hpayload => exact Num.unpack64_eq_nan hexp hpayload

/-! ### Signed magnitudes -/

theorem Num.signedInt_mul (s : Bool) (q u : Nat) : Num.signedInt s (q * u) = Num.signedInt s q * u := by
  cases s
  · exact Int.natCast_mul q u
  · exact (congrArg Neg.neg (Int.natCast_mul q u)).trans (Int.neg_mul _ _).symm

theorem Num.natAbs_signedInt (s : Bool) (q : Nat) : (Num.signedInt s q).natAbs = q := by
  cases s
  · exact Int.natAbs_natCast q
  · exact (Int.natAbs_neg _).trans (Int.natAbs_natCast q)

theorem Num.signedInt_not (s : Bool) (q : Nat) : Num.signedInt (!s) q = -Num.signedInt s q := by
  cases s
  · rfl
  · exact (Int.neg_neg _).symm

theorem Num.signedInt_mul_signedInt_nonneg (s : Bool) (q m : Nat) : 0 ≤ Num.signedInt s q * Num.signedInt s m := by
  cases s
  · exact Int.mul_nonneg (Int.natCast_nonneg q) (Int.natCast_nonneg m)
  · exact Int.mul_nonneg_of_nonpos_of_nonpos (Int.neg_nonpos_of_nonneg (Int.natCast_nonneg q))
      (Int.neg_nonpos_of_nonneg (Int.natCast_nonneg m))

end Sys2Proof.Machine
end

section
/-! The four modes of `Round` and FRNDINT (48_exchange_and_rounding.md).

A directed mode keeps the sign and rounds the magnitude away from zero or toward it (`Num.integralMag_away`, `Num.integralMag_toward`);
which of the two, by direction and sign, makes it the floor, the ceiling or the truncation. The result is representable, so packing it
is exact. Nearest mode is the floor of the rounded sum, taken through a 64-bit integer. -/

namespace Sys2Proof.Machine

/-! ### Counting in ones -/

theorem unitsOfOne_pos : 0 < unitsOfOne := by
  rw [unitsOfOne, Nat.one_shiftLeft]
  exact Nat.two_pow_pos 1074

theorem shiftRight_eq_div_shiftLeft (m u : Nat) : m >>> u = m / 1 <<< u := by
  rw [Nat.one_shiftLeft, Nat.shiftRight_eq_div_pow]

theorem shiftLeft_eq_mul_shiftLeft (q u : Nat) : q <<< u = q * 1 <<< u := by
  rw [Nat.one_shiftLeft, Nat.shiftLeft_eq]

theorem shiftRight_units (m : Nat) : m >>> 1074 = m / unitsOfOne := shiftRight_eq_div_shiftLeft m 1074

theorem shiftLeft_units (q : Nat) : q <<< 1074 = q * unitsOfOne := shiftLeft_eq_mul_shiftLeft q 1074

/-! ### The integral magnitude -/

/-- Whether a direction leads a value with sign `s` away from zero. -/
def Num.Direction.awayFromZero : Num.Direction → Bool → Bool
  | .down, s => s
  | .up, s => !s
  | .chop, _ => false

/-- It is the whole part, and one more when a fraction is left and the direction leads away from zero. -/
theorem Num.integralMag_eq (dir : Num.Direction) (s : Bool) (m : Nat) :
    Num.integralMag dir s m
      = if m / unitsOfOne * unitsOfOne ≠ m ∧ dir.awayFromZero s = true then m / unitsOfOne + 1 else m / unitsOfOne := by
  simp only [Num.integralMag, shiftRight_units, shiftLeft_units]
  split
  next hwhole => exact (if_neg fun h => h.1 hwhole).symm
  next hfrac => cases dir <;> cases s <;> simp [Num.Direction.awayFromZero, hfrac]

/-- Away from zero it is the least whole number of ones not below the magnitude. -/
theorem Num.integralMag_away {dir : Num.Direction} {s : Bool} (h : dir.awayFromZero s = true) (m : Nat) :
    m ≤ Num.integralMag dir s m * unitsOfOne ∧ Num.integralMag dir s m * unitsOfOne < m + unitsOfOne := by
  have hmod := Nat.mod_lt m unitsOfOne_pos
  have hdiv := Nat.div_add_mod' m unitsOfOne
  rw [Num.integralMag_eq]
  split
  next hfrac =>
    rw [Nat.succ_mul]
    omega
  next hnofrac =>
    have hwhole : m / unitsOfOne * unitsOfOne = m := by_contra fun hfrac => hnofrac ⟨hfrac, h⟩
    omega

/-- Toward zero it is the greatest whole number of ones not above the magnitude. -/
theorem Num.integralMag_toward {dir : Num.Direction} {s : Bool} (h : dir.awayFromZero s = false) (m : Nat) :
    Num.integralMag dir s m * unitsOfOne ≤ m ∧ m < Num.integralMag dir s m * unitsOfOne + unitsOfOne := by
  have hmod := Nat.mod_lt m unitsOfOne_pos
  have hdiv := Nat.div_add_mod' m unitsOfOne
  rw [Num.integralMag_eq, h, if_neg (by simp)]
  omega

/-- A 53-bit significand that leaves a fraction below bit `u` has at most 52 bits above it. -/
theorem Num.shiftRight_lt_of_fraction {f k u : Nat} (hf : f < 2 ^ 53) (hfrac : f <<< k >>> u <<< u ≠ f <<< k) :
    f <<< k >>> u < 2 ^ 52 := by
  rcases Nat.lt_or_ge k u with hlt | hge
  · obtain ⟨j, rfl⟩ := Nat.exists_eq_add_of_lt hlt
    have hj : f >>> j ≤ f := Nat.shiftRight_le f j
    rw [Nat.add_assoc, Nat.shiftRight_add, Nat.shiftLeft_shiftRight, Nat.shiftRight_succ]
    omega
  · refine absurd ?_ hfrac
    rw [← Nat.sub_add_cancel hge, Nat.shiftLeft_add, Nat.shiftLeft_shiftRight]

/-- Without a fraction it is the magnitude itself; with one it has at most 53 bits, one more than the whole part included. -/
theorem Num.representable_integralMag (dir : Num.Direction) (s : Bool) {m : Nat} (hm : Num.Representable m) :
    Num.Representable (Num.integralMag dir s m <<< 1074) := by
  by_cases hwhole : m >>> 1074 <<< 1074 = m
  · rw [shiftRight_units, shiftLeft_units] at hwhole
    rwa [Num.integralMag_eq, if_neg fun h => h.1 hwhole, shiftLeft_units, hwhole]
  · obtain ⟨f, k, hf, hk, rfl⟩ := hm
    have hbits := Num.shiftRight_lt_of_fraction hf hwhole
    have hle : Num.integralMag dir s (f <<< k) ≤ f <<< k >>> 1074 + 1 := by
      rw [Num.integralMag_eq, shiftRight_units]
      split <;> omega
    exact ⟨_, 1074, by omega, by omega, rfl⟩

/-! ### The directed modes by value -/

/-- Down is the floor (R294): toward zero from a positive value, away from it from a negative one. -/
theorem Num.integralMag_down_bounds (s : Bool) (m : Nat) :
    Num.signedInt s (Num.integralMag .down s m) * unitsOfOne ≤ Num.signedInt s m
      ∧ Num.signedInt s m < Num.signedInt s (Num.integralMag .down s m) * unitsOfOne + unitsOfOne := by
  rw [← Num.signedInt_mul]
  cases s with
  | false =>
    have h := Num.integralMag_toward (dir := .down) (s := false) rfl m
    simp only [Num.signedInt, Bool.false_eq_true, if_false]
    omega
  | true =>
    have h := Num.integralMag_away (dir := .down) (s := true) rfl m
    simp only [Num.signedInt, if_true]
    omega

/-- Up is the ceiling (R295): the negated floor of the negated value. -/
theorem Num.integralMag_up_bounds (s : Bool) (m : Nat) :
    Num.signedInt s m ≤ Num.signedInt s (Num.integralMag .up s m) * unitsOfOne
      ∧ Num.signedInt s (Num.integralMag .up s m) * unitsOfOne < Num.signedInt s m + unitsOfOne := by
  have hmirror : Num.integralMag .down (!s) m = Num.integralMag .up s m := by
    rw [Num.integralMag_eq, Num.integralMag_eq]
    rfl
  have hdown := Num.integralMag_down_bounds (!s) m
  rw [hmirror, Num.signedInt_not, Num.signedInt_not, Int.neg_mul] at hdown
  omega

/-- Chop keeps the sign and drops the fraction of the magnitude (R296). -/
theorem Num.integralMag_chop_bounds (s : Bool) (m : Nat) :
    (Num.signedInt s (Num.integralMag .chop s m) * unitsOfOne).natAbs ≤ (Num.signedInt s m).natAbs
      ∧ (Num.signedInt s m).natAbs < (Num.signedInt s (Num.integralMag .chop s m) * unitsOfOne).natAbs + (unitsOfOne : Int).natAbs
      ∧ 0 ≤ Num.signedInt s (Num.integralMag .chop s m) * unitsOfOne * Num.signedInt s m := by
  obtain ⟨hle, hlt⟩ := Num.integralMag_toward (dir := .chop) (s := s) rfl m
  simp only [← Num.signedInt_mul, Num.natAbs_signedInt, Int.natAbs_natCast]
  exact ⟨hle, hlt, Num.signedInt_mul_signedInt_nonneg s _ m⟩

theorem Num.roundIntegral_inf64 (dir : Num.Direction) (neg : Bool) (d : Slot) :
    Num.roundIntegral dir (Num.inf64 neg) d = Num.inf64 neg := by
  rw [Num.roundIntegral, Num.unpack64_inf64]

theorem Num.isNaN_roundIntegral (dir : Num.Direction) {x : Slot} (d : Slot) (hx : Num.isNaN x = true) :
    Num.isNaN (Num.roundIntegral dir x d) = true := by
  rw [Num.roundIntegral, beq_iff_eq.mp hx]
  exact Num.isNaN_nan64 d

/-- A finite argument rounds to a signed whole number of ones under its own sign bit, a zero result included. -/
theorem Num.roundIntegral_value (dir : Num.Direction) {x : Slot} {s : Bool} {m : Nat} (d : Slot) (hx : Num.unpack64 x = .fin s m) :
    exactValue (Num.roundIntegral dir x d) = some (Num.signedInt s (Num.integralMag dir s m) * unitsOfOne)
      ∧ (Num.roundIntegral dir x d).msb = x.msb := by
  obtain ⟨hsign, hm⟩ := Num.msb_and_representable_of_unpack64 hx
  have hr : Num.unpack64 (Num.roundIntegral dir x d) = .fin s (Num.integralMag dir s m <<< 1074) := by
    rw [Num.roundIntegral, hx]
    exact Num.unpack64_pack64 s (Num.representable_integralMag dir s hm)
  refine ⟨?_, (Num.msb_and_representable_of_unpack64 hr).1.trans hsign.symm⟩
  rw [exactValue_of_unpack64 hr, shiftLeft_units, Num.signedInt_mul]

/-! ### The nearest mode by value -/

theorem Num.floorInt_eq_ediv (s : Bool) (m : Nat) : Num.floorInt s m = Num.signedInt s m / unitsOfOne := by
  obtain ⟨hle, hlt⟩ := Num.integralMag_down_bounds s m
  have hpos : (0 : Int) < unitsOfOne := Int.natCast_pos.mpr unitsOfOne_pos
  rw [← add_one_mul] at hlt
  exact Int.le_antisymm ((Int.le_ediv_iff_mul_le hpos).mpr hle) (Int.lt_add_one_iff.mp ((Int.ediv_lt_iff_lt_mul hpos).mpr hlt))

theorem Num.fitsI64_iff (q : Int) : Num.fitsI64 q = true ↔ -9223372036854775808 ≤ q ∧ q < 9223372036854775808 := by
  simp [Num.fitsI64]

/-- The floor of a double needs no rounding when it is converted back. -/
theorem representable_floor {y : Slot} {v : Int} (h : exactValue y = some v) :
    Num.Representable ((v / unitsOfOne).natAbs <<< 1074) := by
  obtain ⟨s, m, hy, rfl⟩ := exactValue_eq_some h
  rw [← Num.floorInt_eq_ediv, Num.floorInt, Num.natAbs_signedInt]
  exact Num.representable_integralMag .down s (Num.msb_and_representable_of_unpack64 hy).2

/-- An integer in range whose magnitude is representable converts to a double of that value, zero to `+0`. -/
theorem Num.i64ToF64_ofInt {q : Int} (hlo : -9223372036854775808 ≤ q) (hhi : q < 9223372036854775808)
    (hq : Num.Representable (q.natAbs <<< 1074)) :
    exactValue (Num.i64ToF64 (BitVec.ofInt 64 q)) = some (q * unitsOfOne)
      ∧ (Num.i64ToF64 (BitVec.ofInt 64 q)).msb = decide (q < 0) := by
  have htoInt : (BitVec.ofInt 64 q).toInt = q := BitVec.toInt_ofInt_eq_self (by omega) (by omega) (by omega)
  have hunpack : Num.unpack64 (Num.i64ToF64 (BitVec.ofInt 64 q)) = .fin (decide (q < 0)) (q.natAbs <<< 1074) := by
    rw [Num.i64ToF64, BitVec.msb_eq_toInt, htoInt]
    exact Num.unpack64_pack64 _ hq
  have hsigned : Num.signedInt (decide (q < 0)) q.natAbs = q := by
    simp only [Num.signedInt, decide_eq_true_eq]
    split <;> omega
  refine ⟨?_, (Num.msb_and_representable_of_unpack64 hunpack).1⟩
  rw [exactValue_of_unpack64 hunpack, shiftLeft_units, Num.signedInt_mul, hsigned]

/-- Nearest mode from a finite sum: its floor as an integer, and the draw when that is out of range (R293). -/
theorem roundNearest_of_sum {x d : Slot} {v : Int} (h : exactValue (Num.fadd x Num.half64 d) = some v) :
    roundNearest x d
      = if Num.fitsI64 (v / unitsOfOne) then Num.i64ToF64 (BitVec.ofInt 64 (v / unitsOfOne)) else d := by
  obtain ⟨s, m, hsum, rfl⟩ := exactValue_eq_some h
  rw [roundNearest, hsum, ← Num.floorInt_eq_ediv]

theorem roundNearest_value {x d : Slot} {v : Int} (h : exactValue (Num.fadd x Num.half64 d) = some v) :
    if -9223372036854775808 ≤ v / unitsOfOne ∧ v / unitsOfOne < 9223372036854775808 then
      exactValue (roundNearest x d) = some (v / unitsOfOne * unitsOfOne) ∧ (roundNearest x d).msb = decide (v / unitsOfOne < 0)
    else roundNearest x d = d := by
  rw [roundNearest_of_sum h]
  split
  next hfits =>
    rw [if_pos ((Num.fitsI64_iff _).mpr hfits)]
    obtain ⟨hlo, hhi⟩ := hfits
    exact Num.i64ToF64_ofInt hlo hhi (representable_floor h)
  next hfar => exact if_neg fun hfits => hfar ((Num.fitsI64_iff _).mp hfits)

theorem roundNearest_of_no_sum {x d : Slot} (h : exactValue (Num.fadd x Num.half64 d) = none) : roundNearest x d = d := by
  unfold roundNearest
  split
  next => rfl
  next => rfl
  next s m hsum =>
    rw [exactValue_of_unpack64 hsum] at h
    cases h

/-- Settles O41: nearest mode through the value of the sum; each directed mode through the value its magnitude rounds to, and the
bounds of that direction. -/
theorem roundingModesByValue : Obligations.RoundingModesByValue := by
  refine ⟨fun x d => ⟨round_nearest x d, round_down x d, round_up x d, round_chop x d⟩, fun x d v => roundNearest_value,
    fun x d => roundNearest_of_no_sum, Num.roundIntegral_inf64, fun dir x d => Num.isNaN_roundIntegral dir d, fun x d v hv => ?_⟩
  obtain ⟨s, m, hx, rfl⟩ := exactValue_eq_some hv
  obtain ⟨hdown, hdownSign⟩ := Num.roundIntegral_value .down d hx
  obtain ⟨hup, hupSign⟩ := Num.roundIntegral_value .up d hx
  obtain ⟨hchop, hchopSign⟩ := Num.roundIntegral_value .chop d hx
  obtain ⟨hfloorLe, hfloorLt⟩ := Num.integralMag_down_bounds s m
  obtain ⟨hceilLe, hceilLt⟩ := Num.integralMag_up_bounds s m
  obtain ⟨htruncLe, htruncLt, htruncSide⟩ := Num.integralMag_chop_bounds s m
  exact ⟨⟨_, hdown, hfloorLe, hfloorLt, fun _ => hdownSign⟩, ⟨_, hup, hceilLe, hceilLt, fun _ => hupSign⟩,
    ⟨_, hchop, htruncLe, htruncLt, htruncSide, fun _ => hchopSign⟩⟩

/-! ### FRNDINT -/

theorem exec_frndint (s : State) :
    exec .frndint s = .next (s.setSt 0#3 (round (s.st 0#3) (s.cw.extractLsb' 10 2) s.draw)).afterDraw := rfl

/-- Settles O40: FRNDINT is an indexed write of `ST(0)`, of the old value rounded by the rounding control. -/
theorem roundToInteger : Obligations.RoundToInteger := fun s =>
  ⟨_, s.draw, exec_frndint s, (s.st_setSt 0#3 0#3 _).trans (if_pos rfl), onlyRegisterWritten_setSt s 0#3 _⟩

end Sys2Proof.Machine
end

section
/-! The exceptions of 60_exceptions.md: no instruction refuses and none faults. The fatal paths (the memory and register divides by
zero, the undefined pairs) are updates too: they latch the halt and answer the state that carries it. -/

namespace Sys2Proof.Machine

/-- Settles O53: the chain of updates each constructor of `Instr` answers (`exec_updates`) ends in the next state. -/
theorem everyInstructionCompletes : Obligations.EveryInstructionCompletes := by
  intro i s
  obtain ⟨t, hnext, -⟩ := exec_updates i s
  exact ⟨t, hnext⟩

end Sys2Proof.Machine
end

section
/-! The converse of the round trip of 30_encoding.md: what a word decodes to encodes to it, and the opcode map is unambiguous and total.

What a dispatcher answers encodes to the word dispatched, in one fact for each form (`encode_decodeMem`, `encode_decodeReg`). That a
dispatcher answers every word of a row is read off the rows, from the fields a row compares (`decodeMem_isSome_of_row`,
`decodeReg_isSome_of_row`): so a pair that decodes to nothing is outside the map. -/

namespace Sys2Proof

open Laws

/-! ### A dispatcher's answer encodes to the word dispatched -/

theorem encode_decodeMem : ∀ (g sub3 : BitVec 3) (mod : BitVec 2) (rm : BitVec 3),
    ∀ i ∈ decodeMem g sub3 ⟨mod, rm⟩, encode i = memWord g sub3 ⟨mod, rm⟩ ∧ i.wf = AddrMode.wf ⟨mod, rm⟩ := by decide +kernel

theorem encode_decodeReg : ∀ g hi lo : BitVec 3,
    ∀ i ∈ decodeReg g hi lo, encode i = regWord g hi lo ∧ i.wf = true := by decide +kernel

/-! ### What the rows of the map compare (30_encoding.md R87) -/

theorem rowMatches_iff (r : OpcodeRow) (w : Word16) :
    rowMatches r w = true ↔ w &&& r.mask = r.pattern ∧ (r.format = .mem → w.extractLsb' 6 2 ≠ 3#2) := by
  simp [rowMatches, or_iff_not_imp_left]

/-- Every row compares the group and `sub3`. -/
theorem row_compares_group_and_sub3 : ∀ r ∈ opcodeRows, r.mask.extractLsb' 8 3 = 7#3 ∧ r.mask.extractLsb' 3 3 = 7#3 := by
  decide +kernel

/-- A register row compares `mod` with 3. -/
theorem register_row_compares_mod : ∀ r ∈ opcodeRows, r.format ≠ .mem →
    r.mask.extractLsb' 6 2 = 3#2 ∧ r.pattern.extractLsb' 6 2 = 3#2 := by decide +kernel

/-- A field of a word that a row takes, as far as the row compares it, is the row's. -/
theorem field_of_rowMatches {r : OpcodeRow} {w : Word16} (h : rowMatches r w = true) (k n : Nat) :
    w.extractLsb' k n &&& r.mask.extractLsb' k n = r.pattern.extractLsb' k n := by
  rw [← BitVec.extractLsb'_and, ((rowMatches_iff r w).mp h).1]

/-- A word is taken by a memory row or by a register row as its form says (30_encoding.md R73). -/
theorem format_mem_iff_of_rowMatches {r : OpcodeRow} {w : Word16} (hr : r ∈ opcodeRows) (h : rowMatches r w = true) :
    r.format = .mem ↔ w.extractLsb' 6 2 ≠ 3#2 := by
  refine ⟨((rowMatches_iff r w).mp h).2, fun hw => by_contra fun hreg => hw ?_⟩
  obtain ⟨hmask, hmod⟩ := register_row_compares_mod r hr hreg
  have hfield := field_of_rowMatches h 6 2
  rw [hmask, hmod] at hfield
  exact BitVec.and_allOnes.symm.trans hfield

theorem group_and_sub3_of_rowMatches {r : OpcodeRow} {w : Word16} (hr : r ∈ opcodeRows) (h : rowMatches r w = true) :
    w.extractLsb' 8 3 = r.pattern.extractLsb' 8 3 ∧ w.extractLsb' 3 3 = r.pattern.extractLsb' 3 3 := by
  obtain ⟨hgroup, hsub3⟩ := row_compares_group_and_sub3 r hr
  have hg := field_of_rowMatches h 8 3
  have hs := field_of_rowMatches h 3 3
  rw [hgroup] at hg
  rw [hsub3] at hs
  exact ⟨BitVec.and_allOnes.symm.trans hg, BitVec.and_allOnes.symm.trans hs⟩

/-! ### The dispatchers answer every row -/

theorem decodeMem_isSome_of_row : ∀ r ∈ opcodeRows, r.format = .mem → ∀ mod rm,
    (decodeMem (r.pattern.extractLsb' 8 3) (r.pattern.extractLsb' 3 3) ⟨mod, rm⟩).isSome = true := by decide +kernel

theorem decodeReg_isSome_of_row : ∀ r ∈ opcodeRows, r.format ≠ .mem → ∀ lo : BitVec 3,
    lo &&& r.mask.extractLsb' 0 3 = r.pattern.extractLsb' 0 3 →
    (decodeReg (r.pattern.extractLsb' 8 3) (r.pattern.extractLsb' 3 3) lo).isSome = true := by decide +kernel

theorem group_pairWord (g : BitVec 3) (modrm : Byte) : (pairWord g modrm).extractLsb' 8 3 = g :=
  (BitVec.extractLsb'_append_eq_of_le (by decide)).trans BitVec.extractLsb'_append_eq_right

/-- A field of `modrm` is that field of the pair's word. -/
theorem field_pairWord (g : BitVec 3) (modrm : Byte) {k n : Nat} (h : k + n ≤ 8) :
    (pairWord g modrm).extractLsb' k n = modrm.extractLsb' k n := BitVec.extractLsb'_append_eq_of_add_le h

/-- A memory word that its dispatcher leaves without an answer is outside the map (30_encoding.md R78). -/
theorem not_defined_of_decodeMem_eq_none {g sub3 : BitVec 3} {m : AddrMode} (hm : m.wf = true) (h : decodeMem g sub3 m = none) :
    isDefinedWord (memWord g sub3 m) = false := by
  refine Bool.eq_false_iff.mpr fun hdefined => ?_
  obtain ⟨r, hr, hmatch⟩ := List.any_eq_true.mp hdefined
  have hmod : (memWord g sub3 m).extractLsb' 6 2 = m.mod := (field_pairWord g _ (by decide)).trans (modField_append ..)
  have hsub3 : (memWord g sub3 m).extractLsb' 3 3 = sub3 := (field_pairWord g _ (by decide)).trans (sub3Field_append ..)
  have hformat := (format_mem_iff_of_rowMatches hr hmatch).mpr (hmod ▸ m.wf_iff.mp hm)
  have hsome := decodeMem_isSome_of_row r hr hformat m.mod m.rm
  obtain ⟨hgroup, hrow⟩ := group_and_sub3_of_rowMatches hr hmatch
  rw [← hgroup, ← hrow, hsub3, memWord, group_pairWord, h] at hsome
  cases hsome

/-- The same of a register word. -/
theorem not_defined_of_decodeReg_eq_none {g hi lo : BitVec 3} (h : decodeReg g hi lo = none) :
    isDefinedWord (regWord g hi lo) = false := by
  refine Bool.eq_false_iff.mpr fun hdefined => ?_
  obtain ⟨r, hr, hmatch⟩ := List.any_eq_true.mp hdefined
  have hmod : (regWord g hi lo).extractLsb' 6 2 = 3#2 := (field_pairWord g _ (by decide)).trans (modField_append ..)
  have hhi : (regWord g hi lo).extractLsb' 3 3 = hi := (field_pairWord g _ (by decide)).trans (sub3Field_append ..)
  have hlo : (regWord g hi lo).extractLsb' 0 3 = lo := (field_pairWord g _ (by decide)).trans (rmField_append ..)
  have hformat : r.format ≠ .mem := fun hmem => (format_mem_iff_of_rowMatches hr hmatch).mp hmem hmod
  have hsome := decodeReg_isSome_of_row r hr hformat lo (hlo ▸ field_of_rowMatches hmatch 0 3)
  obtain ⟨hgroup, hrow⟩ := group_and_sub3_of_rowMatches hr hmatch
  rw [← hgroup, ← hrow, hhi, regWord, group_pairWord, h] at hsome
  cases hsome

/-- What a pair decodes to encodes to the pair's word, and is well-formed (30_encoding.md R78, R79). -/
theorem encode_decodeGroup (g : BitVec 3) (modrm : Byte) :
    encode (decodeGroup g modrm) = pairWord g modrm ∧ (decodeGroup g modrm).WellFormed := by
  obtain ⟨a, b, c, rfl⟩ : ∃ (a : BitVec 2) (b c : BitVec 3), modrm = a ++ b ++ c := ⟨_, _, _, (modrm_eq_append modrm).symm⟩
  rw [decodeGroup, isReg_append, sub3Field_append, rmField_append, modField_append]
  by_cases ha : a = 3#2
  · subst ha
    rw [beq_self_eq_true, if_pos rfl]
    cases hd : decodeReg g b c with
    | some i => exact encode_decodeReg g b c i hd
    | none => exact ⟨rfl, (undefined_wellFormed_iff g _).mpr (not_defined_of_decodeReg_eq_none hd)⟩
  · rw [beq_false_of_ne ha, if_neg Bool.false_ne_true]
    have hm : AddrMode.wf ⟨a, c⟩ = true := (AddrMode.wf_iff _).mpr ha
    cases hd : decodeMem g b ⟨a, c⟩ with
    | some i =>
      obtain ⟨hword, hwf⟩ := encode_decodeMem g b a c i hd
      exact ⟨hword, hwf.trans hm⟩
    | none => exact ⟨rfl, (undefined_wellFormed_iff g _).mpr (not_defined_of_decodeMem_eq_none (m := ⟨a, c⟩) hm hd)⟩

/-- A word that decodes is the word of a pair (30_encoding.md R71). -/
theorem eq_pairWord_of_decodeWord {w : Word16} {i : Instr} (h : decodeWord w = .ok i) :
    ∃ (g : BitVec 3) (modrm : Byte), w = pairWord g modrm ∧ i = decodeGroup g modrm := by
  unfold decodeWord decode at h
  split at h
  next hesc =>
    refine ⟨_, _, ?_, (Except.ok.inj h).symm⟩
    rw [pairWord, ← hesc, BitVec.extractLsb'_append_extractLsb' (w := 5) (len := 3) (x := w.extractLsb' 8 8)]
    exact (BitVec.extractLsb'_append_extractLsb' (w := 8) (len := 8)).symm
  next => cases h

/-- Settles O2: a word that decodes is a pair's word, and each dispatcher's answer encodes to the pair. -/
theorem encodeOfDecodeIsTheWord : Obligations.EncodeOfDecodeIsTheWord := by
  intro w i h
  obtain ⟨g, modrm, rfl, rfl⟩ := eq_pairWord_of_decodeWord h
  exact encode_decodeGroup g modrm

/-! ### The map -/

/-- Two rows of one form whose patterns agree where both compare are one row. -/
theorem row_eq_of_patterns_agree : ∀ r ∈ opcodeRows, ∀ r' ∈ opcodeRows, (r.format = .mem ↔ r'.format = .mem) →
    r.pattern &&& r'.mask = r'.pattern &&& r.mask → r = r' := by decide +kernel

/-- No word is taken by two rows (30_encoding.md R79). -/
theorem row_eq_of_rowMatches {w : Word16} {r r' : OpcodeRow} (hr : r ∈ opcodeRows) (hr' : r' ∈ opcodeRows)
    (h : rowMatches r w = true) (h' : rowMatches r' w = true) : r = r' := by
  refine row_eq_of_patterns_agree r hr r' hr' ?_ ?_
  · rw [format_mem_iff_of_rowMatches hr h, format_mem_iff_of_rowMatches hr' h']
  · rw [← ((rowMatches_iff r w).mp h).1, ← ((rowMatches_iff r' w).mp h').1, BitVec.and_assoc, BitVec.and_assoc,
      BitVec.and_comm r.mask]

/-- Decoding the bytes of a pair is decoding inside its group (30_encoding.md R71). -/
theorem decode_escape (g : BitVec 3) (modrm : Byte) : decode (0b11011#5 ++ g) modrm = .ok (decodeGroup g modrm) := by
  have h := decodeWord_pairWord g modrm
  rwa [decodeWord, pairWord_escByte, pairWord_modrm] at h

/-- Settles O3: two rows that take a word agree in form and in what they compare; a pair decodes to an undefined instruction that is
well-formed, and so outside the map, or to one of the map. -/
theorem opcodeMapIsUnambiguousAndTotal : Obligations.OpcodeMapIsUnambiguousAndTotal := by
  refine ⟨fun w r r' hr hr' h h' => row_eq_of_rowMatches hr hr' h h', fun g modrm => ⟨fun h => ?_, fun h => ?_⟩⟩
  · have hdecoded : decodeGroup g modrm = .undefined g modrm := by simpa [decode_escape] using h
    exact (undefined_wellFormed_iff g modrm).mp (hdecoded ▸ (encode_decodeGroup g modrm).2)
  · rw [decode_escape, ← decodeWord_pairWord]
    exact decodeWord_of_not_defined g modrm h

/-- Settles O4: each word is the encoding of its instruction, which is well-formed. -/
theorem specWordsDecode : Obligations.SpecWordsDecode :=
  have h := decodeOfEncodeIsTheInstruction
  ⟨h (.fsubStiSt 1#3) rfl, h (.fdivrM32 ⟨0#2, 5#3⟩) rfl, h .fcompp rfl, h (.fildM64 ⟨0#2, 5#3⟩) rfl, h .fldpi rfl, h .fyl2x rfl,
    h .fninit rfl, h (.fxchSti 3#3) rfl, h (.undefined 2#3 0x05#8) (by decide +kernel)⟩

end Sys2Proof
end

section
/-! The laws of the register stack and the instructions made of its primitives (40_stack_controller.md R107; 43_compare.md R198;
44_load_store_convert.md R215, R220; 45_constants.md; 48_exchange_and_rounding.md R290).

A load of a register or of a constant is one push; FXCH is two indexed writes; FCOMPP and FISTP are a write and pops, whose frame is that
of the write with a tag emptied by each pop (`Popped.popState`). -/

namespace Sys2Proof.Machine

/-! ### The laws of the stack (R107) -/

/-- The other registers after a push, read from the new top (R107 (c)). -/
theorem State.st_push_of_ne_zero (s : State) (v : Slot) {i : StackIndex} (h : i ≠ 0#3) : (s.push v).st i = s.st (i - 1#3) := by
  have hi : i - 1#3 ≠ 7#3 := by bv_omega
  simpa using s.st_push_succ v (i - 1#3) hi

/-- Pops of all eight slots empty all eight tags (R107 (f)). -/
theorem emptyTag_all (tw : Word16) (p : StackIndex) :
    emptyTag (emptyTag (emptyTag (emptyTag (emptyTag (emptyTag (emptyTag (emptyTag tw p) (p + 1#3)) (p + 2#3)) (p + 3#3))
      (p + 4#3)) (p + 5#3)) (p + 6#3)) (p + 7#3) = 0xFFFF#16 := by
  have hall : ∀ q : BitVec 3, 3#16 <<< (2 * q.toNat) ||| (3#16 <<< (2 * (q + 1#3).toNat) ||| (3#16 <<< (2 * (q + 2#3).toNat)
      ||| (3#16 <<< (2 * (q + 3#3).toNat) ||| (3#16 <<< (2 * (q + 4#3).toNat) ||| (3#16 <<< (2 * (q + 5#3).toNat)
      ||| (3#16 <<< (2 * (q + 6#3).toNat) ||| 3#16 <<< (2 * (q + 7#3).toNat))))))) = 0xFFFF#16 := by decide
  simp only [emptyTag, BitVec.or_assoc, hall]
  exact BitVec.or_allOnes

/-- Eight pops come round to the same `top` with every tag Empty, and write no slot (R107 (f)). -/
theorem State.popState_eight (s : State) :
    let t := s.popState.popState.popState.popState.popState.popState.popState.popState
    t.top = s.top ∧ t.slots = s.slots ∧ t.tw = 0xFFFF#16 := by
  refine ⟨?_, ?_, ?_⟩
  · simp only [State.popState_top, BitVec.add_assoc]
    exact BitVec.add_zero s.top
  · simp only [State.popState_slots]
  · simp only [State.popState_tw, State.popState_top, BitVec.add_assoc]
    exact emptyTag_all s.tw s.top

/-- Eight pushes come round to the same `top`, with the values pushed in the eight registers, the last on top (R107 (g)). -/
theorem State.push_eight (s : State) (v v1 v2 v3 v4 v5 v6 v7 : Slot) :
    let t := (((((((s.push v).push v1).push v2).push v3).push v4).push v5).push v6).push v7
    t.top = s.top ∧ t.st 7#3 = v ∧ t.st 6#3 = v1 ∧ t.st 5#3 = v2 ∧ t.st 4#3 = v3 ∧ t.st 3#3 = v4 ∧ t.st 2#3 = v5
      ∧ t.st 1#3 = v6 ∧ t.st 0#3 = v7 := by
  refine ⟨?_, ?_⟩
  · simp [BitVec.sub_eq_add_neg, BitVec.add_assoc]
  · simp [State.st_push_of_ne_zero]

/-- A push and a pop give the value back, with the slot's tag Empty (R107 (e)). -/
theorem State.pop_push (s : State) (v : Slot) :
    (s.push v).pop.1 = v ∧ (s.push v).pop.2.top = s.top ∧ (s.push v).pop.2.slot (s.top - 1#3) = v
      ∧ tagOf (s.push v).pop.2.tw (s.top - 1#3) = 3#2 := by
  have hslot : (s.push v).slot (s.top - 1#3) = v := (s.slot_push v _).trans (if_pos rfl)
  exact ⟨hslot, BitVec.sub_add_cancel s.top 1#3, hslot, tagOf_emptyTag_self s.tw _⟩

/-- Settles O9: laws (a) to (g), each by its lemma. -/
theorem stackLaws : Obligations.StackLaws := fun s v =>
  ⟨⟨s.st_push_zero v, by rw [State.push_top]; bv_omega⟩,
    ⟨by simp [State.st_eq_slot], tagOf_emptyTag_self s.tw s.top, by rw [State.pop_snd, State.popState_top]; bv_omega⟩,
    s.st_push_succ v, s.st_popState, s.pop_push v, s.popState_eight, s.push_eight v⟩

/-! ### Loads of a register and of a constant -/

theorem exec_fldSti (i : StackIndex) (s : State) : exec (.fldSti i) s = .next (s.push (s.st i)) := rfl

/-- Settles O24: the value is read before the push, so `i = 7` reads the slot that the push overwrites. -/
theorem registerLoad : Obligations.RegisterLoad := fun i s =>
  ⟨_, exec_fldSti i s, s.st_push_zero _, s.st_push_succ _ i, onlyPushed_push s _⟩

/-- Settles O31: each constant load is a push of its pattern of the table. -/
theorem constantLoads : Obligations.ConstantLoads := by
  intro s p hp
  have hpush : exec p.1 s = .next (s.push p.2) := by
    simp only [List.mem_cons, List.not_mem_nil, or_false] at hp
    rcases hp with rfl | rfl | rfl | rfl | rfl | rfl | rfl <;> rfl
  exact ⟨_, hpush, s.st_push_zero _, onlyPushed_push s _⟩

/-! ### FXCH -/

theorem exec_fxchSti (i : StackIndex) (s : State) :
    exec (.fxchSti i) s = .next ((s.setSt 0#3 (s.st i)).setSt i (s.st 0#3)) := rfl

/-- A state whose slots read as those of `s`, and which is `s` but for its slots, is `s`. -/
theorem State.eq_of_slot_eq {s t : State} (ht : t = { s with slots := t.slots }) (h : ∀ p : StackIndex, t.slot p = s.slot p) :
    t = s := by
  have hslots : t.slots = s.slots := by
    refine Vector.ext fun k hk => ?_
    have hp : (BitVec.ofNat 3 k).toNat = k := Nat.mod_eq_of_lt hk
    simpa only [State.slot, hp] using h (BitVec.ofNat 3 k)
  rw [ht, hslots]

/-- Two exchanges of the same registers are none. -/
theorem exec_fxchSti_twice (i : StackIndex) (s : State) :
    exec (.fxchSti i) ((s.setSt 0#3 (s.st i)).setSt i (s.st 0#3)) = .next s := by
  rw [exec_fxchSti, Host.Outcome.next.injEq]
  refine State.eq_of_slot_eq rfl fun p => ?_
  simp only [State.slot_setSt, State.st_setSt, State.phys_setSt, State.phys_zero]
  split_ifs with hi htop hi0 <;> simp_all [State.st_eq_slot]

/-- Settles O39: two indexed writes, which touch no tag. -/
theorem exchangeMovesNoTag : Obligations.ExchangeMovesNoTag := by
  intro i s
  refine ⟨_, exec_fxchSti i s, ?_, ?_, fun p hp => ?_, ⟨rfl, rfl⟩, rfl, rfl, rfl, ⟨rfl, rfl, rfl, rfl, rfl, rfl, rfl⟩, fun _ => rfl,
    rfl, exec_fxchSti_twice i s⟩
  · rw [State.st_setSt, State.st_setSt, if_pos rfl]
    split
    next hi => rw [hi]
    next => rfl
  · rw [State.st_setSt, if_pos rfl]
  · simp only [List.mem_cons, List.not_mem_nil, or_false, not_or] at hp
    rw [State.slot_setSt, State.slot_setSt, State.phys_setSt, if_neg (Ne.symm hp.2), if_neg (Ne.symm hp.1)]

/-! ### FCOMPP and FISTP -/

/-- One more pop empties one more tag (R102). -/
theorem Popped.popState {s t : State} {ps : List StackIndex} (h : Popped s t ps) : Popped s t.popState (ps ++ [t.top]) := by
  obtain ⟨htop, hempty, hkept⟩ := h
  refine ⟨?_, fun p hp => ?_, fun p hp => ?_⟩
  · rw [State.popState_top, List.length_append, BitVec.ofNat_add, ← BitVec.add_assoc, ← htop]
    rfl
  · rw [State.popState_tw]
    by_cases hne : p = t.top
    · exact hne ▸ tagOf_emptyTag_self t.tw p
    · have hmem : p ∈ ps := by simpa [hne] using hp
      exact (tagOf_emptyTag_of_ne t.tw hne).trans (hempty p hmem)
  · obtain ⟨hps, hne⟩ : p ∉ ps ∧ p ≠ t.top := by simpa using hp
    exact (tagOf_emptyTag_of_ne t.tw hne).trans (hkept p hps)

theorem exec_fcompp (s : State) :
    exec .fcompp s = .next (s.setSw (comparePPWord s.sw (s.st 0#3) (s.st 1#3))).popState.popState := rfl

/-- The codes of an unordered FCOMPP are the open parameter's (43_compare.md R198; log entry 7). -/
theorem comparePPWord_unordered_bits (sw : Word16) {a b : Slot} (h : Num.isNaN a = true ∨ Num.isNaN b = true) :
    (comparePPWord sw a b).getLsbD 14 = Config.fcomppUnorderedCC.c3 ∧ (comparePPWord sw a b).getLsbD 10 = Config.fcomppUnorderedCC.c2
      ∧ (comparePPWord sw a b).getLsbD 8 = Config.fcomppUnorderedCC.c0 := by
  rw [comparePPWord_of_unordered sw h]
  simp only [clearCC, unorderedBits, BitVec.getLsbD_or, BitVec.getLsbD_and, getLsbD_maskIf, maskC3, maskC2, maskC0]
  simp

/-- Settles O21: the status word of the ordered or the unordered comparison, and the frame of two pops. -/
theorem comparePopTwice : Obligations.ComparePopTwice := by
  intro s
  refine ⟨_, exec_fcompp s, (popped_popState (s.setSw _)).popState, ?_, comparePPWord_and_keep .., fun _ _ => rfl, rfl, rfl,
    ⟨rfl, rfl, rfl, rfl, rfl, rfl, rfl⟩, fun _ => rfl, rfl⟩
  simp only [State.popState_sw, State.setSw_sw]
  split
  next hnan => exact comparePPWord_unordered_bits s.sw (Bool.or_eq_true _ _ ▸ hnan)
  next hnum =>
    obtain ⟨ha, hb⟩ := Bool.or_eq_false_iff.mp (Bool.eq_false_iff.mpr hnum)
    rw [comparePPWord_of_ordered s.sw ha hb]
    exact ⟨compareWord_c3 .., compareWord_c0 .., compareWord_c2 ..⟩

theorem exec_fistpM64 (m : AddrMode) (s : State) :
    exec (.fistpM64 m) s = .next (s.afterDraw.afterDraw.busWrite s.port.ea .w64 (fistpValue s)).popState := rfl

/-- Settles O27: one write of the integer image, with two draws before it and a pop after it. -/
theorem integerStore : Obligations.IntegerStore := by
  intro m s hmem
  have hstays : StackStays s (s.afterDraw.afterDraw.busWrite s.port.ea .w64 (fistpValue s)) := ⟨rfl, rfl⟩
  have hstored : OnlyStored s.afterDraw.afterDraw (s.afterDraw.afterDraw.busWrite s.port.ea .w64 (fistpValue s)) s.port.ea .w64
      (fistpValue s) := onlyStored_busWrite _ _ _ _ hmem
  exact ⟨_, s.draw, s.afterDraw.draw, exec_fistpM64 m s, hstays.popped, hstored.popState⟩

end Sys2Proof.Machine
end

section
/-! FNSTENV (47_environment_control.md R268).

The seven words go out one by one, in ascending order. What a run of 2-byte stores leaves is said for any list of words: the traffic
(`store16s_outputs`), the bytes it does not reach (`byteAt_store16s_outside`) and the two bytes of each word (`byteAt_store16s_inside`). -/

namespace Sys2Proof.Machine

/-! ### Several words stored -/

/-- The bus writes of `store16s`. -/
def store16Traffic : Addr → List Word16 → List PortEvent
  | _, [] => []
  | ea, w :: rest => .memWrite ea .w16 (w.setWidth 64) :: store16Traffic (ea + 2#32) rest

theorem store16s_outputs (ws : List Word16) : ∀ (s : State) (ea : Addr),
    (store16s s ea ws).outputs = s.outputs ++ store16Traffic ea ws := by
  induction ws with
  | nil => exact fun s _ => (List.append_nil s.outputs).symm
  | cons w rest ih =>
    intro s ea
    rw [store16s, ih, store16Traffic, List.append_cons]
    rfl

/-- The stores leave the bytes outside their own alone (20_memory.md R55). -/
theorem byteAt_store16s_outside (ws : List Word16) : ∀ (s : State) (ea x : Addr), 2 * ws.length ≤ (x - ea).toNat →
    (store16s s ea ws).byteAt x = s.byteAt x := by
  induction ws with
  | nil => exact fun _ _ _ _ => rfl
  | cons w rest ih =>
    intro s ea x hx
    rw [List.length_cons] at hx
    have hrest : 2 * rest.length ≤ (x - (ea + 2#32)).toNat := by bv_omega
    have hword : AccessWidth.w16.bytes ≤ (x - ea).toNat := by
      rw [AccessWidth.bytes]
      omega
    rw [store16s, ih _ _ _ hrest]
    exact s.byteAt_busWrite_outside ea .w16 _ x hword

/-- Word `k` lies at `ea + 2k`, little-endian, as long as the words do not run round the address space (20_memory.md R51, R53). -/
theorem byteAt_store16s_inside (ws : List Word16) : ∀ (s : State) (ea : Addr) (k j : Nat) (w : Word16), s.mem.wf = true →
    2 * ws.length ≤ 4294967296 → ws[k]? = some w → j < 2 →
    (store16s s ea ws).byteAt (ea + BitVec.ofNat 32 (2 * k + j)) = w.extractLsb' (8 * j) 8 := by
  induction ws with
  | nil => exact fun _ _ _ _ _ _ _ hk => by simp at hk
  | cons w rest ih =>
    intro s ea k j v hm hlen hk hj
    rw [List.length_cons] at hlen
    rw [store16s]
    cases k with
    | zero =>
      obtain rfl : w = v := by simpa using hk
      have hrest : 2 * rest.length ≤ (ea + BitVec.ofNat 32 (2 * 0 + j) - (ea + 2#32)).toNat := by bv_omega
      have hbyte := s.byteAt_busWrite_inside ea .w16 (w.setWidth 64) j hm hj
      rw [byteAt_store16s_outside rest _ _ _ hrest, Nat.mul_zero, Nat.zero_add]
      exact hbyte.trans (BitVec.extractLsb'_setWidth_of_le (by omega))
    | succ k =>
      have haddr : ea + BitVec.ofNat 32 (2 * (k + 1) + j) = ea + 2#32 + BitVec.ofNat 32 (2 * k + j) := by
        rw [BitVec.add_assoc, ← BitVec.ofNat_add, show 2 + (2 * k + j) = 2 * (k + 1) + j by omega]
      rw [haddr]
      exact ih _ _ k j v (s.wf_busWrite ea .w16 _ hm) (by omega) (by simpa using hk) hj

/-! ### The environment image -/

theorem exec_fnstenvM14 (m : AddrMode) (s : State) : exec (.fnstenvM14 m) s = .next (store16s s s.port.ea (envWords s)) := rfl

/-- The fourteen bytes of the image (R268): word `k` of `envWords` at `ea + 2k`. -/
theorem byteAt_environment {s : State} {k : Nat} {w : Word16} (hm : s.mem.wf = true) (hk : (envWords s)[k]? = some w) :
    (store16s s s.port.ea (envWords s)).byteAt (s.port.ea + BitVec.ofNat 32 (2 * k)) = w.extractLsb' 0 8
      ∧ (store16s s s.port.ea (envWords s)).byteAt (s.port.ea + BitVec.ofNat 32 (2 * k + 1)) = w.extractLsb' 8 8 :=
  have hlen : 2 * (envWords s).length ≤ 4294967296 := by simp [envWords]
  ⟨byteAt_store16s_inside _ s s.port.ea k 0 w hm hlen hk (by decide),
    byteAt_store16s_inside _ s s.port.ea k 1 w hm hlen hk (by decide)⟩

/-- Settles O34: a run of 2-byte stores of the seven words. -/
theorem environmentStore : Obligations.EnvironmentStore := by
  intro m s hm ipn w8 image
  have hwords : ∀ p ∈ image, ∃ k, p.1 = 2 * k ∧ (envWords s)[k]? = some p.2 := by
    simp only [image, List.forall_mem_cons]
    exact ⟨⟨0, rfl, rfl⟩, ⟨1, rfl, rfl⟩, ⟨2, rfl, rfl⟩, ⟨3, rfl, rfl⟩, ⟨4, rfl, rfl⟩, ⟨5, rfl, rfl⟩, ⟨6, rfl, rfl⟩, by simp⟩
  obtain ⟨hslots, htop, htw, hcw, hsw, hlip, hlop, hldp, hhalted, hreport, hax, hport, hinputs, -⟩ :=
    store16s_state (envWords s) s s.port.ea
  refine ⟨_, exec_fnstenvM14 m s, fun p hp => ?_, fun a ha => byteAt_store16s_outside _ s _ a ha, fun p _ => ?_, ⟨htop, htw⟩, hcw, hsw,
    hax, ⟨hlip, hlop, hldp, hhalted, hreport, hport, hinputs⟩, ?_⟩
  · obtain ⟨k, hoffset, hk⟩ := hwords p hp
    rw [hoffset]
    exact byteAt_environment hm hk
  · simp only [State.slot, hslots]
  · rw [store16s_outputs]
    simp [store16Traffic, envWords, ipNibble, image, ipn, w8, BitVec.add_assoc]

/-! ### The control word read back -/

/-- A 16-bit value read from the bus is its two bytes (20_memory.md R51). -/
theorem setWidth_busValue_w16 {s : State} {a : Addr} {w : Word16} (hlow : s.byteAt a = w.extractLsb' 0 8)
    (hhigh : s.byteAt (a + 1#32) = w.extractLsb' 8 8) : (s.busValue a .w16).setWidth 16 = w := by
  have h0 : (s.busValue a .w16).extractLsb' 0 8 = s.byteAt (a + 0#32) := busReadIsLittleEndian s a .w16 0
  have h1 : (s.busValue a .w16).extractLsb' 8 8 = s.byteAt (a + 1#32) := busReadIsLittleEndian s a .w16 1
  rw [BitVec.add_zero] at h0
  calc (s.busValue a .w16).setWidth 16 = (s.busValue a .w16).extractLsb' 0 16 := BitVec.setWidth_eq_extractLsb' (by decide)
    _ = (s.busValue a .w16).extractLsb' 8 8 ++ (s.busValue a .w16).extractLsb' 0 8 :=
      (BitVec.extractLsb'_append_extractLsb'_eq_extractLsb' (start₁ := 0) (len₁ := 8) (len₂ := 8) rfl).symm
    _ = w.extractLsb' 8 8 ++ w.extractLsb' 0 8 := by rw [h0, h1, hlow, hhigh]
    _ = w := BitVec.extractLsb'_append_extractLsb' (w := 8) (len := 8)

/-- Settles O35: the control word is word 0 of the image, and FLDCW reads that word's two bytes. -/
theorem environmentControlWordRoundTrip : Obligations.EnvironmentControlWordRoundTrip := by
  intro m m' s t u v hm hstore hmem hea hload
  rw [exec_fnstenvM14, Host.Outcome.next.injEq] at hstore
  rw [exec_fldcwM16, Host.Outcome.next.injEq] at hload
  subst hstore hload
  have hbytes : ∀ a, u.byteAt a = (store16s s s.port.ea (envWords s)).byteAt a := fun a => by
    rw [State.byteAt, hmem]
    rfl
  obtain ⟨hlow, hhigh⟩ := byteAt_environment (k := 0) hm rfl
  rw [Nat.mul_zero, BitVec.add_zero] at hlow
  rw [State.setCw_cw, hea]
  exact setWidth_busValue_w16 ((hbytes _).trans hlow) ((hbytes _).trans hhigh)

end Sys2Proof.Machine
end

section
/-! The step, the fatals and `RESET` (00_scope.md R9; 60_exceptions.md; 70_reset_and_hazards.md), and the status flags that no instruction
raises (10_state.md R35; 42_arithmetic.md).

A running block executes the instruction presented and then ends it (`accept_of_decode`). How an instruction ends is said once for all of them
(`exec_endsOnce`): with some traffic of its own and either the latch as it was or one fatal reported. -/

namespace Sys2Proof.Machine

/-! ### A presented instruction -/

theorem decode_of_not_escape {esc : Byte} (modrm : Byte) (h : esc.extractLsb' 3 5 ≠ 0b11011#5) :
    decode esc modrm = .error (.notEscape esc) := if_neg h

/-- A running block executes what the bytes decode to (60_exceptions.md R329). -/
theorem accept_of_decode {p : Presented} {s : State} {i : Instr} (hs : s.halted = false) (hdecode : decode p.esc p.modrm = .ok i) :
    accept p s = finish (exec i (s.sample p)) := by
  rw [accept, if_neg (Bool.eq_false_iff.mp hs), hdecode]

theorem accept_of_not_escape {p : Presented} {s : State} (hs : s.halted = false) (h : p.esc.extractLsb' 3 5 ≠ 0b11011#5) :
    accept p s = .refused (.notEscape p.esc) := by
  rw [accept, if_neg (Bool.eq_false_iff.mp hs), decode_of_not_escape p.modrm h]

/-- Settles O5: the decoder tests the escape byte before all else, and a step of a running block decodes. -/
theorem nonEscapeByteIsRefused : Obligations.NonEscapeByteIsRefused := by
  intro p s rest hesc
  exact ⟨decode_of_not_escape p.modrm hesc, fun hs hi => (step_of_inputs_cons hi).trans (accept_of_not_escape hs hesc)⟩

/-- Settles O52: `finish` is the end of an instruction on the outcome of executing it. -/
theorem stepRunsTheDecodedInstruction : Obligations.StepRunsTheDecodedInstruction := by
  intro p s rest i hs hi hdecode
  have haccept : accept p (s.setInputs rest) = finish (exec i ((s.setInputs rest).sample p)) := accept_of_decode hs hdecode
  refine ((step_of_inputs_cons hi).trans haccept).trans ?_
  change _ = mapNext _ (exec i ((s.setInputs rest).sample p))
  cases exec i ((s.setInputs rest).sample p) <;> rfl

/-! ### `RESET` and FNINIT -/

theorem exec_fninit (s : State) : exec .fninit s = .next s.initWords := rfl

/-- Settles O37: FNINIT writes the word and pointer registers. -/
theorem initialiseLeavesTheStack : Obligations.InitialiseLeavesTheStack := fun s =>
  ⟨_, exec_fninit s, rfl, rfl, rfl, rfl, rfl, rfl, rfl, fun _ _ => rfl, rfl, rfl, rfl, rfl, rfl, fun _ => rfl, rfl⟩

/-- With the latch clear and no report, `RESET` writes no more than FNINIT (70_reset_and_hazards.md R351). -/
theorem assertReset_eq_initWords {s : State} (hs : s.halted = false) (hr : s.report = none) : s.assertReset = s.initWords := by
  rw [State.assertReset, ← hs, ← hr]
  rfl

/-- Settles O50: `RESET` is taken whatever the latch, and is FNINIT on a block whose latch is clear. -/
theorem resetInputAndFninit : Obligations.ResetInputAndFninit := by
  refine ⟨fun s rest hi => ?_, fun s hs hr => ?_⟩
  · exact ⟨(s.setInputs rest).assertReset, step_of_inputs_cons hi, rfl, rfl, rfl, rfl, rfl, rfl, rfl, rfl, rfl, rfl, rfl, rfl, rfl, rfl⟩
  · rw [exec_fninit, takeInput, assertReset_eq_initWords hs hr]

/-- Settles O55: memory lists no byte, every tag is Empty, and the status word, the pointers and the latch are clear. -/
theorem resetMeetsTheSessionInvariant : Obligations.ResetMeetsTheSessionInvariant :=
  ⟨rfl, rfl, BitVec.zero_and, rfl, rfl, rfl, rfl⟩

/-! ### The class 1 fatal -/

theorem exec_undefined (g : BitVec 3) (modrm : Byte) (s : State) : exec (.undefined g modrm) s = .next (s.raiseInstruction g modrm) := rfl

/-- The reported sub-opcode by the threshold test (30_encoding.md R86). -/
theorem subOpcode_eq (modrm : Byte) :
    subOpcode modrm = if 0xC0#8 ≤ modrm then .reg (modrm.extractLsb' 0 6) else .mem (modrm.extractLsb' 3 3) := by
  simp [subOpcode, isReg, sub6Field, sub3Field]

/-- Settles O47: an undefined pair raises the class 1 fatal, which writes the latch and the report. -/
theorem undefinedEncodingIsFatal : Obligations.UndefinedEncodingIsFatal := by
  intro g modrm s
  rw [← subOpcode_eq modrm]
  exact ⟨_, exec_undefined g modrm s, ⟨rfl, rfl, rfl, rfl, rfl, rfl, rfl, rfl, rfl, rfl, rfl, rfl⟩, rfl, rfl, _, rfl, rfl, rfl⟩

/-! ### How an instruction ends -/

/-- What an instruction itself gives out at the ports: everything but a report and a cycle count. -/
def PortEvent.isOwn : PortEvent → Bool
  | .memRead _ _ | .memWrite _ _ _ | .accumulator _ => true
  | .cycles _ | .fatal _ => false

/-- The traffic `l` of an instruction and then its end: latch and report as they were, or a fatal latched and reported once. -/
def EndsOnceAfter (l : List PortEvent) (s t : State) : Prop :=
  t.port = s.port ∧ (∀ e ∈ l, e.isOwn = true)
    ∧ ((t.halted = s.halted ∧ t.report = s.report ∧ t.outputs = s.outputs ++ l)
      ∨ (t.halted = true ∧ ∃ r : Report, t.report = some r ∧ t.outputs = s.outputs ++ l ++ [.fatal r]))

/-- An instruction without traffic that leaves the latch. -/
theorem endsOnceAfter_nil {s t : State} (hport : t.port = s.port) (hhalted : t.halted = s.halted) (hreport : t.report = s.report)
    (hout : t.outputs = s.outputs) : EndsOnceAfter [] s t :=
  ⟨hport, by simp, .inl ⟨hhalted, hreport, hout.trans (List.append_nil _).symm⟩⟩

/-- An instruction with one port event of its own that leaves the latch. -/
theorem endsOnceAfter_singleton {s t : State} {e : PortEvent} (he : e.isOwn = true) (hport : t.port = s.port)
    (hhalted : t.halted = s.halted) (hreport : t.report = s.report) (hout : t.outputs = s.outputs ++ [e]) : EndsOnceAfter [e] s t :=
  ⟨hport, by simpa using he, .inl ⟨hhalted, hreport, hout⟩⟩

/-- The D8 and DC forms: the class 2 fatal, or a register written. -/
theorem ArithEffect.endsOnceAfter {op : ArithOp} {i : StackIndex} {src nan : Slot} {l : List PortEvent} {s t : State}
    (h : ArithEffect op i src nan l s t) (hl : ∀ e ∈ l, e.isOwn = true) : EndsOnceAfter l s t := by
  unfold ArithEffect at h
  split at h
  next =>
    obtain ⟨⟨-, -, -, -, -, -, -, -, -, -, hport, -⟩, hhalted, hreport, hout⟩ := h
    exact ⟨hport, hl, .inr ⟨hhalted, _, hreport, hout⟩⟩
  next =>
    obtain ⟨-, -, -, -, -, -, ⟨-, -, -, hhalted, hreport, hport, -⟩, -, hout⟩ := h
    exact ⟨hport, hl, .inl ⟨hhalted, hreport, hout⟩⟩

/-- An outcome that is the effect of a D8 or DC form. -/
def AnswersArithEffect (s : State) (r : Result) : Prop :=
  ∃ (t : State) (op : ArithOp) (i : StackIndex) (src nan : Slot) (l : List PortEvent),
    r = .next t ∧ ArithEffect op i src nan l s t ∧ ∀ e ∈ l, e.isOwn = true

theorem arithM32_answers (op : ArithOp) (s : State) : AnswersArithEffect s (arithM32 op s) := by
  obtain ⟨t, d, e, hexec, heffect⟩ := arithM32_effect op s
  exact ⟨t, _, _, _, _, _, hexec, heffect, by simp [PortEvent.isOwn]⟩

theorem arithM64_answers (op : ArithOp) (s : State) : AnswersArithEffect s (arithM64 op s) := by
  obtain ⟨t, e, hexec, heffect⟩ := arithM64_effect op s
  exact ⟨t, _, _, _, _, _, hexec, heffect, by simp [PortEvent.isOwn]⟩

theorem arithStSti_answers (op : ArithOp) (i : StackIndex) (s : State) : AnswersArithEffect s (arithStSti op i s) := by
  obtain ⟨t, e, hexec, heffect⟩ := arithStSti_effect op i s
  exact ⟨t, _, _, _, _, _, hexec, heffect, by simp⟩

theorem arithStiSt_answers (op : ArithOp) (i : StackIndex) (s : State) : AnswersArithEffect s (arithStiSt op i s) := by
  obtain ⟨t, e, hexec, heffect⟩ := arithStiSt_effect op i s
  exact ⟨t, _, _, _, _, _, hexec, heffect, by simp⟩

theorem AnswersArithEffect.endsOnce {s : State} {r : Result} (h : AnswersArithEffect s r) :
    ∃ t : State, r = .next t ∧ ∃ l, EndsOnceAfter l s t := by
  obtain ⟨t, op, i, src, nan, l, hr, heffect, hl⟩ := h
  exact ⟨t, hr, l, heffect.endsOnceAfter hl⟩

theorem store16Traffic_isOwn (ws : List Word16) : ∀ (ea : Addr), ∀ e ∈ store16Traffic ea ws, e.isOwn = true := by
  induction ws with
  | nil => simp [store16Traffic]
  | cons w rest ih =>
    intro ea
    simpa [store16Traffic, PortEvent.isOwn] using ih (ea + 2#32)

theorem store16s_endsOnce (ws : List Word16) (s : State) (ea : Addr) :
    EndsOnceAfter (store16Traffic ea ws) s (store16s s ea ws) := by
  obtain ⟨-, -, -, -, -, -, -, -, hhalted, hreport, -, hport, -, -⟩ := store16s_state ws s ea
  exact ⟨hport, store16Traffic_isOwn ws ea, .inl ⟨hhalted, hreport, store16s_outputs ws s ea⟩⟩

/-- How every instruction ends (60_exceptions.md R321, R322, R326). -/
theorem exec_endsOnce (i : Instr) (s : State) : ∃ t : State, exec i s = .next t ∧ ∃ l, EndsOnceAfter l s t := by
  cases i with
  | faddM32 | fmulM32 | fsubM32 | fsubrM32 | fdivM32 | fdivrM32 => exact (arithM32_answers _ s).endsOnce
  | faddM64 | fmulM64 | fsubM64 | fsubrM64 | fdivM64 | fdivrM64 => exact (arithM64_answers _ s).endsOnce
  | faddStSti i | fmulStSti i | fsubStSti i | fsubrStSti i | fdivStSti i | fdivrStSti i => exact (arithStSti_answers _ i s).endsOnce
  | faddStiSt i | fmulStiSt i | fsubStiSt i | fsubrStiSt i | fdivStiSt i | fdivrStiSt i => exact (arithStiSt_answers _ i s).endsOnce
  | fnstenvM14 m => exact ⟨_, exec_fnstenvM14 m s, _, store16s_endsOnce _ s _⟩
  | undefined g modrm => exact ⟨_, exec_undefined g modrm s, [], rfl, by simp, .inr ⟨rfl, _, rfl, by simp⟩⟩
  | faddpStiSt | fmulpStiSt | fsubpStiSt | fsubrpStiSt | fdivpStiSt | fdivrpStiSt | fyl2x | fcomSti | fcompSti | fcompp
  | fldSti | fld1 | fldl2t | fldl2e | fldpi | fldlg2 | fldln2 | fldz | f2xm1 | frndint | fxchSti | fnclex | fninit | fsetpm =>
    exact ⟨_, rfl, _, endsOnceAfter_nil rfl rfl rfl rfl⟩
  | fcomM32 | fcomM64 | fcompM32 | fcompM64 | fldM32 | fldM64 | fildM64 | fldcwM16
  | fstM32 | fstM64 | fstpM32 | fstpM64 | fistpM64 | fnstcwM16 | fnstswM16 | fnstswAx =>
    exact ⟨_, rfl, _, endsOnceAfter_singleton (by rfl) rfl rfl rfl rfl⟩

/-- An outcome that is a next state is that next state. -/
theorem of_exists_next {r : Result} {t : State} {P : State → Prop} (hex : ∃ u, r = .next u ∧ P u) (h : r = .next t) : P t := by
  obtain ⟨u, hu, hP⟩ := hex
  obtain rfl : u = t := by simpa using hu.symm.trans h
  exact hP

/-- Settles O49: the instruction ends once, on the state with the tuple sampled, and its end adds the cycle count when the latch is still
clear. -/
theorem fatalIsReportedOnce : Obligations.FatalIsReportedOnce := by
  intro p s t rest hs hi hstep
  rw [step_of_inputs_cons hi] at hstep
  rcases accept_cases hstep with ⟨hhalted, -⟩ | ⟨-, i, u, -, hexec, rfl⟩
  · exact absurd (hs.symm.trans hhalted) Bool.false_ne_true
  obtain ⟨l, hport, hown, hend⟩ := of_exists_next (exec_endsOnce i _) hexec
  refine ⟨l, fun r hr => Bool.false_ne_true (hown _ hr), fun n hn => Bool.false_ne_true (hown _ hn), ?_⟩
  rcases hend with ⟨hhalted, hreport, hout⟩ | ⟨hhalted, r, hreport, hout⟩
  · left
    have hrunning : u.halted = false := hhalted.trans hs
    have hend : u.endInstruction = u.emit (.cycles (Config.cycles p.esc p.modrm)) := by
      rw [State.endInstruction, hrunning, hport]
      rfl
    rw [hend]
    exact ⟨hrunning, hreport, congrArg (· ++ [_]) hout⟩
  · right
    rw [show u.endInstruction = u from if_pos hhalted]
    exact ⟨hhalted, r, hreport, hout⟩

/-! ### The status flags -/

/-- The status and the control word are as they were. -/
def FlagsKept (s t : State) : Prop := t.sw = s.sw ∧ t.cw = s.cw

theorem ArithEffect.flagsKept {op : ArithOp} {i : StackIndex} {src nan : Slot} {l : List PortEvent} {s t : State}
    (h : ArithEffect op i src nan l s t) : FlagsKept s t := by
  unfold ArithEffect at h
  split at h
  next =>
    obtain ⟨⟨-, -, -, hcw, hsw, -⟩, -⟩ := h
    exact ⟨hsw, hcw⟩
  next =>
    obtain ⟨-, -, -, hcw, hsw, -⟩ := h
    exact ⟨hsw, hcw⟩

theorem AnswersArithEffect.flagsKept {s : State} {r : Result} (h : AnswersArithEffect s r) : ∃ t, r = .next t ∧ FlagsKept s t := by
  obtain ⟨t, op, i, src, nan, l, hr, heffect, -⟩ := h
  exact ⟨t, hr, heffect.flagsKept⟩

theorem arithPop_flagsKept (op : ArithOp) (i : StackIndex) (s : State) : ∃ t, arithPop op i s = .next t ∧ FlagsKept s t := by
  obtain ⟨t, e, hexec, -, -, -, hcw, hsw, -⟩ := arithPop_effect op i s
  exact ⟨t, hexec, hsw, hcw⟩

/-- Each of the five forms keeps the flags, for every operation (42_arithmetic.md R147). -/
theorem exec_flagsKept_of_isArithmetic {i : Instr} (s : State) (hi : isArithmetic i = true) :
    ∃ t, exec i s = .next t ∧ FlagsKept s t := by
  cases i with
  | faddM32 | fmulM32 | fsubM32 | fsubrM32 | fdivM32 | fdivrM32 => exact (arithM32_answers _ s).flagsKept
  | faddM64 | fmulM64 | fsubM64 | fsubrM64 | fdivM64 | fdivrM64 => exact (arithM64_answers _ s).flagsKept
  | faddStSti i | fmulStSti i | fsubStSti i | fsubrStSti i | fdivStSti i | fdivrStSti i => exact (arithStSti_answers _ i s).flagsKept
  | faddStiSt i | fmulStiSt i | fsubStiSt i | fsubrStiSt i | fdivStiSt i | fdivrStiSt i => exact (arithStiSt_answers _ i s).flagsKept
  | faddpStiSt i | fmulpStiSt i | fsubpStiSt i | fsubrpStiSt i | fdivpStiSt i | fdivrpStiSt i => exact arithPop_flagsKept _ i s
  | _ => cases hi

/-- Settles O18: the form's lemma, for the next state the instruction answers. -/
theorem arithmeticWritesNoFlag : Obligations.ArithmeticWritesNoFlag := fun _ s _ hi h =>
  of_exists_next (exec_flagsKept_of_isArithmetic s hi) h

/-- Words that agree under a mask agree in each bit of the mask. -/
theorem getLsbD_of_and_eq {x y mask : Word16} (h : x &&& mask = y &&& mask) {k : Nat} (hk : mask.getLsbD k = true) :
    x.getLsbD k = y.getLsbD k := by
  simpa [BitVec.getLsbD_and, hk] using congrArg (BitVec.getLsbD · k) h

/-- No update but one of a comparison sets a status bit, and that one sets C3, C2 and C0 only (10_state.md R35). -/
theorem InPlace.sw_falls {s t : State} (h : InPlace s t) {k : Nat} (hk : (0xBAFF#16).getLsbD k = true)
    (ht : t.sw.getLsbD k = true) : s.sw.getLsbD k = true := by
  cases h with
  | emit | busWrite | writeAx | afterDraw | setSt | setCw | raise | sample | setInputs => exact ht
  | compare a b => exact (getLsbD_of_and_eq (compareWord_and_keep s.sw a b) hk).symm.trans ht
  | comparePP a b => exact (getLsbD_of_and_eq (comparePPWord_and_keep s.sw a b) hk).symm.trans ht
  | clearExceptions =>
    rw [State.setSw_sw, Sys2Proof.Machine.clearExceptions, BitVec.getLsbD_and] at ht
    exact (Bool.and_eq_true_iff.mp ht).1
  | initWords | assertReset => exact absurd (BitVec.getLsbD_zero.symm.trans ht) Bool.false_ne_true

theorem Updates.sw_falls {s t : State} {n : StackIndex} (h : Updates s n t) {k : Nat} (hk : (0xBAFF#16).getLsbD k = true)
    (ht : t.sw.getLsbD k = true) : s.sw.getLsbD k = true := by
  induction h with
  | refl => exact ht
  | inPlace _ hu ih => exact ih (hu.sw_falls hk ht)
  | push _ _ ih => exact ih ht
  | pop _ ih => exact ih ht

/-- Every bit but 8, 10 and 14 is outside the condition codes. -/
theorem getLsbD_keepMask : ∀ k < 16, k ≠ 8 → k ≠ 10 → k ≠ 14 → (0xBAFF#16).getLsbD k = true := by decide

/-- Settles O57: a step is a chain of updates, none of which raises such a bit. -/
theorem noFlagBitEverRises : Obligations.NoFlagBitEverRises := by
  intro s t k hstep h8 h10 h14 ht
  obtain ⟨n, hu⟩ := updates_of_step hstep
  exact hu.sw_falls (getLsbD_keepMask k (BitVec.lt_of_getLsbD ht) h8 h10 h14) ht

end Sys2Proof.Machine
end

section
/-! Narrowing (00_scope.md R17): `Num.roundMag` is to nearest, ties to even, in every format.

A pattern is a significand at an exponent (`exists_significand`), so magnitudes grow strictly with their patterns. From the exponent that
`Num.roundMag` chooses on, every magnitude is a multiple of the unit it rounds to, and the ones below lie below the least significand of
that exponent: the nearest multiple is the nearest magnitude (`roundMag_nearest`). Overflow is at the midpoint of the last two patterns. -/

namespace Sys2Proof.Machine

/-! ### Patterns and magnitudes -/

/-- A pattern is a significand at an exponent, normalised but at the least exponent. -/
theorem exists_significand (frac p : Nat) :
    ∃ k g : Nat, p = k * 2 ^ frac + g ∧ g < 2 ^ (frac + 1) ∧ (k = 0 ∨ 2 ^ frac ≤ g) := by
  have hpos : 0 < 2 ^ frac := Nat.two_pow_pos frac
  have hmod := Nat.mod_lt p hpos
  have hdiv := Nat.div_add_mod' p (2 ^ frac)
  rw [pow_succ]
  rcases Nat.eq_zero_or_pos (p / 2 ^ frac) with hzero | hexp
  · rw [hzero] at hdiv
    exact ⟨0, p, by omega, by omega, .inl rfl⟩
  · refine ⟨p / 2 ^ frac - 1, 2 ^ frac + p % 2 ^ frac, ?_, by omega, .inr (Nat.le_add_right _ _)⟩
    rw [Nat.sub_one_mul]
    have hle := Nat.le_mul_of_pos_left (2 ^ frac) hexp
    omega

/-- The magnitude of a significand at an exponent; a significand with its carry out is the least one of the next exponent. -/
theorem magOfPattern_significand {frac k g : Nat} (hg : g ≤ 2 ^ (frac + 1)) (hk : k = 0 ∨ 2 ^ frac ≤ g) :
    magOfPattern frac (k * 2 ^ frac + g) = g * 2 ^ k := by
  have hpos : 0 < 2 ^ frac := Nat.two_pow_pos frac
  rw [pow_succ] at hg
  have hdiv : (k * 2 ^ frac + g) / 2 ^ frac = k + g / 2 ^ frac := by
    rw [Nat.add_comm, Nat.add_mul_div_right g k hpos, Nat.add_comm]
  have hmod : (k * 2 ^ frac + g) % 2 ^ frac = g % 2 ^ frac := by rw [Nat.add_comm, Nat.add_mul_mod_self_right]
  rw [magOfPattern, Num.fieldMag, hdiv, hmod]
  rcases Nat.lt_trichotomy g (2 ^ frac) with hlt | rfl | hgt
  · obtain rfl : k = 0 := by omega
    rw [Nat.div_eq_of_lt hlt, Nat.mod_eq_of_lt hlt, if_pos rfl, pow_zero, Nat.mul_one]
  · rw [Nat.div_self hpos, Nat.mod_self, if_neg (Nat.succ_ne_zero k), Nat.shiftLeft_eq, Nat.add_zero, Nat.add_sub_cancel]
  · rcases Nat.eq_or_lt_of_le hg with rfl | hg'
    · rw [Nat.mul_div_cancel_left 2 hpos, Nat.mul_mod_right, if_neg (Nat.succ_ne_zero _), Nat.shiftLeft_eq, Nat.add_zero,
        show k + 2 - 1 = k + 1 from rfl, pow_succ]
      ring
    · have hone : g / 2 ^ frac = 1 := Nat.div_eq_of_lt_le (by omega) (by omega)
      have hrest : 2 ^ frac + g % 2 ^ frac = g := by
        have := Nat.div_add_mod' g (2 ^ frac)
        rw [hone] at this
        omega
      rw [hone, if_neg (Nat.succ_ne_zero k), hrest, Nat.shiftLeft_eq, Nat.add_sub_cancel]

/-- A larger pattern is a larger magnitude. -/
theorem magOfPattern_strictMono (frac : Nat) : StrictMono (magOfPattern frac) := by
  refine strictMono_nat_of_lt_succ fun p => ?_
  obtain ⟨k, g, rfl, hg, hk⟩ := exists_significand frac p
  rw [magOfPattern_significand hg.le hk, Nat.add_assoc, magOfPattern_significand hg (hk.imp_right Nat.le_succ_of_le)]
  exact Nat.mul_lt_mul_of_pos_right (Nat.lt_succ_self g) (Nat.two_pow_pos k)

@[simp] theorem magOfPattern_zero (frac : Nat) : magOfPattern frac 0 = 0 := by
  simp [magOfPattern, Num.fieldMag]

/-! ### Distances -/

/-- A point is nearer to `x` than to `y` when it lies on the side of `x` of their midpoint. -/
theorem distance_le_distance_iff (n x y : Nat) :
    distance n x ≤ distance n y ↔ (x < y → 2 * n ≤ x + y) ∧ (y < x → x + y ≤ 2 * n) := by
  simp only [distance]
  omega

/-- The nearest multiple of `2^k` is nearer than any other, or is even. -/
theorem distance_rneShift_le (n k z : Nat) :
    distance n (Num.rneShift n k <<< k : Nat) ≤ distance n (z <<< k : Nat)
      ∧ (distance n (Num.rneShift n k <<< k : Nat) = distance n (z <<< k : Nat) → z ≠ Num.rneShift n k → Num.rneShift n k % 2 = 0) := by
  obtain ⟨hhalf, htie⟩ := Num.rneShift_spec n k
  generalize Num.rneShift n k = g at *
  have hstep {a b : Nat} (h : a < b) : a <<< k + 1 <<< k ≤ b <<< k := by
    simp only [Nat.shiftLeft_eq, ← Nat.add_mul]
    exact Nat.mul_le_mul_right _ h
  simp only [distance] at *
  rcases Nat.lt_trichotomy z g with hlt | rfl | hgt
  · have := hstep hlt
    exact ⟨by omega, fun h _ => htie (by omega)⟩
  · exact ⟨le_rfl, fun _ h => absurd rfl h⟩
  · have := hstep hgt
    exact ⟨by omega, fun h _ => htie (by omega)⟩

/-! ### Narrowing a magnitude -/

/-- The exponent `e` and the significand that `Num.roundMag` chooses: the unit is `2^(e + extra)`, and above the least exponent the
magnitude has all the significand's bits. -/
theorem roundMag_eq (frac extra n : Nat) : ∃ e : Nat, Num.roundMag frac extra n = e * 2 ^ frac + Num.rneShift n (e + extra)
    ∧ Num.rneShift n (e + extra) ≤ 2 ^ (frac + 1) ∧ (e = 0 ∨ 2 ^ frac <<< (e + extra) ≤ n) := by
  obtain ⟨shift, hshift⟩ : ∃ shift, shift = max (Num.bitLen n - (frac + 1)) extra := ⟨_, rfl⟩
  have he : shift - extra + extra = shift := by omega
  refine ⟨shift - extra, ?_, ?_, ?_⟩
  · rw [Num.roundMag, ← hshift, he, Nat.shiftLeft_eq]
  · have hn : n ≤ 2 ^ (frac + 1) <<< shift := by
      rw [Nat.shiftLeft_eq, ← pow_add]
      exact ((Num.bitLen_le_iff n _).mp (by omega)).le
    rw [he, ← Num.rneShift_shiftLeft (2 ^ (frac + 1)) shift]
    exact Num.rneShift_mono shift hn
  · refine or_iff_not_imp_left.mpr fun hpos => ?_
    rw [he, Nat.shiftLeft_eq, ← pow_add, ← Nat.not_lt, ← Num.bitLen_le_iff]
    omega

/-- `Num.roundMag` is to nearest, ties to even, over all patterns, those from infinity on included. -/
theorem roundMag_nearest {frac : Nat} (hfrac : 0 < frac) (extra n q : Nat) :
    let near := distance n (magOfPattern frac (Num.roundMag frac extra n) <<< extra : Nat)
    let other := distance n (magOfPattern frac q <<< extra : Nat)
    near ≤ other ∧ (near = other → q ≠ Num.roundMag frac extra n → Num.roundMag frac extra n % 2 = 0) := by
  obtain ⟨e, hround, hmax, hbits⟩ := roundMag_eq frac extra n
  have hnormal : e = 0 ∨ 2 ^ frac ≤ Num.rneShift n (e + extra) := hbits.imp_right fun h => by
    rw [← Num.rneShift_shiftLeft (2 ^ frac) (e + extra)]
    exact Num.rneShift_mono (e + extra) h
  have hmag : magOfPattern frac (Num.roundMag frac extra n) <<< extra = Num.rneShift n (e + extra) <<< (e + extra) := by
    rw [hround, magOfPattern_significand hmax hnormal, ← Nat.shiftLeft_eq, ← Nat.shiftLeft_add]
  have hparity : Num.roundMag frac extra n % 2 = Num.rneShift n (e + extra) % 2 := by
    obtain ⟨f, rfl⟩ := Nat.exists_eq_add_of_lt hfrac
    rw [hround, Nat.zero_add, pow_succ, ← Nat.mul_assoc]
    omega
  obtain ⟨k, g, rfl, hg, hk⟩ := exists_significand frac q
  have hq : magOfPattern frac (k * 2 ^ frac + g) = g * 2 ^ k := magOfPattern_significand hg.le hk
  intro near other
  rcases Nat.lt_or_ge k e with hlow | hhigh
  · -- below the chosen exponent: the least significand of that exponent lies between
    have hbelow : magOfPattern frac (k * 2 ^ frac + g) <<< extra < 2 ^ frac <<< (e + extra) := by
      rw [hq, Nat.shiftLeft_add, Nat.shiftLeft_eq _ extra, Nat.shiftLeft_eq _ extra, Nat.shiftLeft_eq, ← pow_add]
      refine Nat.mul_lt_mul_of_pos_right ?_ (Nat.two_pow_pos extra)
      calc g * 2 ^ k < 2 ^ (frac + 1) * 2 ^ k := Nat.mul_lt_mul_of_pos_right hg (Nat.two_pow_pos k)
        _ = 2 ^ (frac + 1 + k) := (pow_add 2 _ _).symm
        _ ≤ 2 ^ (frac + e) := Nat.pow_le_pow_right (by decide) (by omega)
    have hn : 2 ^ frac <<< (e + extra) ≤ n := hbits.resolve_left (by omega)
    have hnear : near ≤ distance n (2 ^ frac <<< (e + extra) : Nat) := by
      rw [show near = _ from congrArg (fun m : Nat => distance n m) hmag]
      exact (distance_rneShift_le n (e + extra) (2 ^ frac)).1
    have hother : distance n (2 ^ frac <<< (e + extra) : Nat) < other := by
      simp only [other, distance]
      omega
    exact ⟨by omega, fun h => by omega⟩
  · -- from it on: a multiple of the unit
    have hmultiple : magOfPattern frac (k * 2 ^ frac + g) <<< extra = (g * 2 ^ (k - e)) <<< (e + extra) := by
      rw [hq, Nat.shiftLeft_add, Nat.shiftLeft_eq _ e, Nat.mul_assoc, ← pow_add, Nat.sub_add_cancel hhigh]
    obtain ⟨hle, htie⟩ := distance_rneShift_le n (e + extra) (g * 2 ^ (k - e))
    rw [← hmag, ← hmultiple] at hle htie
    refine ⟨hle, fun heq hne => hparity.trans (htie heq fun hsame => hne ?_)⟩
    apply (magOfPattern_strictMono frac).injective
    rw [hround, hq, magOfPattern_significand hmax hnormal, ← hsame, Nat.mul_assoc, ← pow_add, Nat.sub_add_cancel hhigh]

/-- A magnitude that a pattern has narrows to that pattern. -/
theorem roundMag_magOfPattern {frac : Nat} (hfrac : 0 < frac) (extra p : Nat) :
    Num.roundMag frac extra (magOfPattern frac p <<< extra) = p := by
  obtain ⟨hle, -⟩ := roundMag_nearest hfrac extra (magOfPattern frac p <<< extra) p
  generalize Num.roundMag frac extra (magOfPattern frac p <<< extra) = r at hle ⊢
  apply (magOfPattern_strictMono frac).injective
  simp only [distance, Nat.shiftLeft_eq] at hle
  exact Nat.eq_of_mul_eq_mul_right (Nat.two_pow_pos extra) (by omega)

/-- Narrowing, with an even pattern of infinity and the overflow threshold midway between it and the pattern before. -/
theorem narrowsToNearestEven_of_midpoint {frac inf overflow : Nat} (hfrac : 0 < frac) (hpos : 0 < inf) (heven : inf % 2 = 0)
    (hmid : magOfPattern frac (inf - 1) + magOfPattern frac inf = 2 * overflow) : NarrowsToNearestEven frac inf overflow := by
  intro extra n
  refine ⟨fun _ q _ => roundMag_nearest hfrac extra n q, ?_⟩
  have hmono := (magOfPattern_strictMono frac).monotone
  have hlast : magOfPattern frac (inf - 1) < magOfPattern frac inf := magOfPattern_strictMono frac (by omega)
  have hunit := Nat.two_pow_pos extra
  have hscale {a b : Nat} (h : a ≤ b) : a * 2 ^ extra ≤ b * 2 ^ extra := Nat.mul_le_mul_right _ h
  have hmid' : magOfPattern frac (inf - 1) * 2 ^ extra + magOfPattern frac inf * 2 ^ extra = 2 * (overflow * 2 ^ extra) := by
    rw [← Nat.add_mul, hmid, Nat.mul_assoc]
  have hlast' := Nat.mul_lt_mul_of_pos_right hlast hunit
  constructor
  · intro hr
    obtain ⟨hle, -⟩ := roundMag_nearest hfrac extra n (inf - 1)
    have hge := hscale (hmono hr)
    simp only [distance, Nat.shiftLeft_eq] at *
    omega
  · intro hn
    by_contra hr
    obtain ⟨hle, htie⟩ := roundMag_nearest hfrac extra n inf
    have hge := hscale (hmono (show Num.roundMag frac extra n ≤ inf - 1 by omega))
    simp only [distance, Nat.shiftLeft_eq] at *
    have hr' : Num.roundMag frac extra n % 2 = 0 := htie (by omega) (by omega)
    have hne : Num.roundMag frac extra n < inf - 1 := by omega
    have hgt := Nat.mul_lt_mul_of_pos_right (magOfPattern_strictMono frac hne) hunit
    omega

end Sys2Proof.Machine
end

section
/-! The two formats (00_scope.md R17): patterns with a sign bit, and what packing into a format means by value.

A pattern of either format is a sign bit over a natural (`eq_ofNat_sign`); what binary64 and binary32 have in common is gathered in
`Num.Format`, and correct rounding is shown from that once (`Num.Format.correctlyRounded`), for any exact value that lies on the same side
of every midpoint as the number narrowed. -/

namespace Sys2Proof.Machine

/-! ### A sign bit over a natural -/

theorem msb_ofNat_sign {k p : Nat} (neg : Bool) (hp : p < 2 ^ k) :
    (BitVec.ofNat (k + 1) ((if neg then 2 ^ k else 0) + p)).msb = neg := by
  cases neg
  · rw [BitVec.msb_eq_false_iff_two_mul_lt, BitVec.toNat_ofNat, pow_succ, Nat.mod_eq_of_lt] <;> simp <;> omega
  · rw [BitVec.msb_eq_true_iff_two_mul_ge, BitVec.toNat_ofNat, pow_succ, Nat.mod_eq_of_lt] <;> simp <;> omega

theorem low_ofNat_sign {k p : Nat} (neg : Bool) (hp : p < 2 ^ k) :
    ((BitVec.ofNat (k + 1) ((if neg then 2 ^ k else 0) + p)).extractLsb' 0 k).toNat = p := by
  rw [BitVec.extractLsb'_toNat, BitVec.toNat_ofNat, Nat.shiftRight_zero, Nat.mod_mod_of_dvd _ (pow_dvd_pow 2 (Nat.le_succ k))]
  cases neg
  · simpa using Nat.mod_eq_of_lt hp
  · simpa using Nat.mod_eq_of_lt hp

/-- Every pattern is its sign bit over the rest. -/
theorem eq_ofNat_sign {k : Nat} (x : BitVec (k + 1)) :
    x = BitVec.ofNat (k + 1) ((if x.msb then 2 ^ k else 0) + (x.extractLsb' 0 k).toNat) := by
  apply BitVec.eq_of_toNat_eq
  have hlt := x.isLt
  rw [pow_succ] at hlt
  rw [BitVec.extractLsb'_toNat, Nat.shiftRight_zero, BitVec.toNat_ofNat, pow_succ]
  cases hx : x.msb
  · have hlow := (BitVec.msb_eq_false_iff_two_mul_lt (x := x)).mp hx
    rw [pow_succ] at hlow
    rw [if_neg Bool.false_ne_true, Nat.zero_add, Nat.mod_eq_of_lt (by omega : x.toNat < 2 ^ k), Nat.mod_eq_of_lt hlt]
  · have hhigh := (BitVec.msb_eq_true_iff_two_mul_ge (x := x)).mp hx
    rw [pow_succ] at hhigh
    have hmod : x.toNat % 2 ^ k = x.toNat - 2 ^ k := by
      rw [Nat.mod_eq_sub_mod (by omega), Nat.mod_eq_of_lt (by omega)]
    rw [if_pos rfl, hmod, Nat.mod_eq_of_lt (by omega)]
    omega

/-- The pattern of a slot below its sign bit. -/
def pattern64 (x : Slot) : Nat := (x.extractLsb' 0 63).toNat

/-- The pattern of a single below its sign bit. -/
def pattern32 (w : Word32) : Nat := (w.extractLsb' 0 31).toNat

theorem pattern64_lt (x : Slot) : pattern64 x < 0x8000000000000000 := BitVec.isLt _

theorem pattern32_lt (w : Word32) : pattern32 w < 0x80000000 := BitVec.isLt _

theorem eq_ofNat_pattern64 (x : Slot) : x = BitVec.ofNat 64 ((if x.msb then 0x8000000000000000 else 0) + pattern64 x) :=
  eq_ofNat_sign (k := 63) x

theorem eq_ofNat_pattern32 (w : Word32) : w = BitVec.ofNat 32 ((if w.msb then 0x80000000 else 0) + pattern32 w) :=
  eq_ofNat_sign (k := 31) w

/-- Two slots with one sign bit and one pattern are one. -/
theorem eq_of_msb_pattern64 {x y : Slot} (hs : x.msb = y.msb) (hp : pattern64 x = pattern64 y) : x = y := by
  rw [eq_ofNat_pattern64 x, eq_ofNat_pattern64 y, hs, hp]

theorem eq_of_msb_pattern32 {x y : Word32} (hs : x.msb = y.msb) (hp : pattern32 x = pattern32 y) : x = y := by
  rw [eq_ofNat_pattern32 x, eq_ofNat_pattern32 y, hs, hp]

/-! ### The three kinds of a pattern -/

/-- The exponent and the fraction field are the pattern split at the fraction. -/
theorem unpack64_eq (x : Slot) :
    Num.unpack64 x = Num.fieldValue 52 2047 x.msb (pattern64 x / 2 ^ 52) (pattern64 x % 2 ^ 52) := by
  have hexp : (x.extractLsb' 52 11).toNat = pattern64 x / 2 ^ 52 := by
    simp only [pattern64, BitVec.extractLsb'_toNat, Nat.shiftRight_eq_div_pow]
    omega
  have hfrac : (x.extractLsb' 0 52).toNat = pattern64 x % 2 ^ 52 := by
    simp only [pattern64, BitVec.extractLsb'_toNat, Nat.shiftRight_eq_div_pow]
    omega
  rw [Num.unpack64, hexp, hfrac]

theorem unpack32_eq (w : Word32) :
    Num.unpack32 w = Num.fieldValue 23 255 w.msb (pattern32 w / 2 ^ 23) (pattern32 w % 2 ^ 23) := by
  have hexp : (w.extractLsb' 23 8).toNat = pattern32 w / 2 ^ 23 := by
    simp only [pattern32, BitVec.extractLsb'_toNat, Nat.shiftRight_eq_div_pow]
    omega
  have hfrac : (w.extractLsb' 0 23).toNat = pattern32 w % 2 ^ 23 := by
    simp only [pattern32, BitVec.extractLsb'_toNat, Nat.shiftRight_eq_div_pow]
    omega
  rw [Num.unpack32, hexp, hfrac]

theorem unpack64_of_finite {x : Slot} (h : pattern64 x < 0x7FF0000000000000) :
    Num.unpack64 x = .fin x.msb (magOfPattern 52 (pattern64 x)) := by
  rw [unpack64_eq, Num.fieldValue, if_neg (by omega)]
  rfl

theorem unpack32_of_finite {w : Word32} (h : pattern32 w < 0x7F800000) :
    Num.unpack32 w = .fin w.msb (magOfPattern 23 (pattern32 w)) := by
  rw [unpack32_eq, Num.fieldValue, if_neg (by omega)]
  rfl

theorem unpack64_of_nan {x : Slot} (h : 0x7FF0000000000000 < pattern64 x) : Num.unpack64 x = .nan := by
  have hlt := pattern64_lt x
  rw [unpack64_eq, Num.fieldValue, if_pos (by omega), if_neg (by omega)]

theorem unpack32_of_nan {w : Word32} (h : 0x7F800000 < pattern32 w) : Num.unpack32 w = .nan := by
  have hlt := pattern32_lt w
  rw [unpack32_eq, Num.fieldValue, if_pos (by omega), if_neg (by omega)]

theorem msb_inf64 (neg : Bool) : (Num.inf64 neg).msb = neg := by cases neg <;> decide

theorem msb_inf32 (neg : Bool) : (Num.inf32 neg).msb = neg := by cases neg <;> decide

theorem pattern64_inf64 (neg : Bool) : pattern64 (Num.inf64 neg) = 0x7FF0000000000000 := by cases neg <;> rfl

theorem pattern32_inf32 (neg : Bool) : pattern32 (Num.inf32 neg) = 0x7F800000 := by cases neg <;> rfl

theorem eq_inf64_of_pattern {x : Slot} (h : pattern64 x = 0x7FF0000000000000) : x = Num.inf64 x.msb :=
  eq_of_msb_pattern64 (msb_inf64 _).symm (h.trans (pattern64_inf64 _).symm)

theorem eq_inf32_of_pattern {w : Word32} (h : pattern32 w = 0x7F800000) : w = Num.inf32 w.msb :=
  eq_of_msb_pattern32 (msb_inf32 _).symm (h.trans (pattern32_inf32 _).symm)

/-- A slot is finite, an infinity or a NaN, as its pattern lies below, at or above that of infinity. -/
theorem unpack64_cases (x : Slot) :
    (pattern64 x < 0x7FF0000000000000 ∧ Num.unpack64 x = .fin x.msb (magOfPattern 52 (pattern64 x)))
      ∨ (x = Num.inf64 x.msb ∧ Num.unpack64 x = .inf x.msb) ∨ (0x7FF0000000000000 < pattern64 x ∧ Num.unpack64 x = .nan) := by
  rcases Nat.lt_trichotomy (pattern64 x) 0x7FF0000000000000 with hlt | heq | hgt
  · exact .inl ⟨hlt, unpack64_of_finite hlt⟩
  · have hx := eq_inf64_of_pattern heq
    exact .inr (.inl ⟨hx, (congrArg Num.unpack64 hx).trans (Num.unpack64_inf64 _)⟩)
  · exact .inr (.inr ⟨hgt, unpack64_of_nan hgt⟩)

theorem unpack32_cases (w : Word32) :
    (pattern32 w < 0x7F800000 ∧ Num.unpack32 w = .fin w.msb (magOfPattern 23 (pattern32 w)))
      ∨ (w = Num.inf32 w.msb ∧ Num.unpack32 w = .inf w.msb) ∨ (0x7F800000 < pattern32 w ∧ Num.unpack32 w = .nan) := by
  rcases Nat.lt_trichotomy (pattern32 w) 0x7F800000 with hlt | heq | hgt
  · exact .inl ⟨hlt, unpack32_of_finite hlt⟩
  · have hw := eq_inf32_of_pattern heq
    exact .inr (.inl ⟨hw, (congrArg Num.unpack32 hw).trans (Num.unpack32_inf32 _)⟩)
  · exact .inr (.inr ⟨hgt, unpack32_of_nan hgt⟩)

/-! ### Packing -/

/-- Below the pattern of infinity, packing puts the sign bit over the narrowed pattern. -/
theorem pack64_of_finite (neg : Bool) {extra n : Nat} (h : Num.roundMag 52 extra n < 0x7FF0000000000000) :
    (Num.pack64 neg extra n).msb = neg ∧ pattern64 (Num.pack64 neg extra n) = Num.roundMag 52 extra n := by
  rw [Num.pack64, Nat.min_eq_left h.le]
  exact ⟨msb_ofNat_sign (k := 63) neg (by omega), low_ofNat_sign (k := 63) neg (by omega)⟩

theorem pack32_of_finite (neg : Bool) {extra n : Nat} (h : Num.roundMag 23 extra n < 0x7F800000) :
    (Num.pack32 neg extra n).msb = neg ∧ pattern32 (Num.pack32 neg extra n) = Num.roundMag 23 extra n := by
  rw [Num.pack32, Nat.min_eq_left h.le]
  exact ⟨msb_ofNat_sign (k := 31) neg (by omega), low_ofNat_sign (k := 31) neg (by omega)⟩

/-- From the pattern of infinity on, it gives the infinity of the sign. -/
theorem pack64_of_overflow (neg : Bool) {extra n : Nat} (h : 0x7FF0000000000000 ≤ Num.roundMag 52 extra n) :
    Num.pack64 neg extra n = Num.inf64 neg := by
  rw [Num.pack64, Nat.min_eq_right h]
  cases neg <;> rfl

theorem pack32_of_overflow (neg : Bool) {extra n : Nat} (h : 0x7F800000 ≤ Num.roundMag 23 extra n) :
    Num.pack32 neg extra n = Num.inf32 neg := by
  rw [Num.pack32, Nat.min_eq_right h]
  cases neg <;> rfl

theorem narrowsToNearestEven64 : NarrowsToNearestEven 52 0x7FF0000000000000 overflow64 :=
  narrowsToNearestEven_of_midpoint (by decide) (by decide) (by decide) (by rfl)

theorem narrowsToNearestEven32 : NarrowsToNearestEven 23 0x7F800000 overflow32 :=
  narrowsToNearestEven_of_midpoint (by decide) (by decide) (by decide) (by rfl)

/-- Settles O43: narrowing in each format, and packing below and from the pattern of infinity on. -/
theorem narrowingIsToNearestEven : Obligations.NarrowingIsToNearestEven := by
  refine ⟨narrowsToNearestEven64, narrowsToNearestEven32, fun neg extra n => ⟨?_, ?_⟩⟩
  · split
    next hover => exact pack64_of_overflow neg hover
    next hfinite => exact pack64_of_finite neg (Nat.not_le.mp hfinite)
  · split
    next hover => exact pack32_of_overflow neg hover
    next hfinite => exact pack32_of_finite neg (Nat.not_le.mp hfinite)

/-! ### Correct rounding -/

/-- What the two formats have in common: `inf` is the pattern of infinity, and what is packed below it stands for the magnitude of the
pattern narrowed to. -/
structure Num.Format {w : Nat} (value : BitVec w → Option Int) (infinity : Bool → BitVec w) (pack : Bool → Nat → Nat → BitVec w)
    (frac inf overflow : Nat) : Prop where
  narrows : NarrowsToNearestEven frac inf overflow
  inf_pos : 0 < inf
  value_eq_some : ∀ (c : BitVec w) (z : Int), value c = some z →
    ∃ (t : Bool) (q : Nat), q < inf ∧ z = Num.signedInt t (magOfPattern frac q)
  value_infinity : ∀ neg : Bool, value (infinity neg) = none
  msb_infinity : ∀ neg : Bool, (infinity neg).msb = neg
  pack_of_overflow : ∀ (neg : Bool) (extra n : Nat), inf ≤ Num.roundMag frac extra n → pack neg extra n = infinity neg
  pack_of_finite : ∀ (neg : Bool) (extra n : Nat), Num.roundMag frac extra n < inf →
    (pack neg extra n).msb = neg ∧ value (pack neg extra n) = some (Num.signedInt neg (magOfPattern frac (Num.roundMag frac extra n)))
      ∧ ((pack neg extra n).getLsbD 0 = false ↔ Num.roundMag frac extra n % 2 = 0)

theorem exactValue_of_finite {x : Slot} (h : pattern64 x < 0x7FF0000000000000) :
    exactValue x = some (Num.signedInt x.msb (magOfPattern 52 (pattern64 x))) := exactValue_of_unpack64 (unpack64_of_finite h)

theorem exactValue32_of_finite {w : Word32} (h : pattern32 w < 0x7F800000) :
    exactValue32 w = some (Num.signedInt w.msb (magOfPattern 23 (pattern32 w))) := by
  rw [exactValue32, unpack32_of_finite h, fpValue]

/-- A double with an exact value is finite. -/
theorem pattern64_lt_of_exactValue {x : Slot} {v : Int} (h : exactValue x = some v) : pattern64 x < 0x7FF0000000000000 := by
  rcases unpack64_cases x with ⟨hlt, -⟩ | ⟨-, hx⟩ | ⟨-, hx⟩
  · exact hlt
  all_goals
    rw [exactValue, hx] at h
    cases h

theorem pattern32_lt_of_exactValue32 {w : Word32} {v : Int} (h : exactValue32 w = some v) : pattern32 w < 0x7F800000 := by
  rcases unpack32_cases w with ⟨hlt, -⟩ | ⟨-, hw⟩ | ⟨-, hw⟩
  · exact hlt
  all_goals
    rw [exactValue32, hw] at h
    cases h

/-- The last bit of a pattern is its parity. -/
theorem getLsbD_zero_iff_pattern64 (x : Slot) : x.getLsbD 0 = false ↔ pattern64 x % 2 = 0 := by
  have hbit : x.getLsbD 0 = decide (x.toNat % 2 = 1) := by simp [BitVec.getLsbD, Nat.testBit_zero]
  rw [hbit, decide_eq_false_iff_not, pattern64, BitVec.extractLsb'_toNat, Nat.shiftRight_zero]
  omega

theorem getLsbD_zero_iff_pattern32 (w : Word32) : w.getLsbD 0 = false ↔ pattern32 w % 2 = 0 := by
  have hbit : w.getLsbD 0 = decide (w.toNat % 2 = 1) := by simp [BitVec.getLsbD, Nat.testBit_zero]
  rw [hbit, decide_eq_false_iff_not, pattern32, BitVec.extractLsb'_toNat, Nat.shiftRight_zero]
  omega

theorem binary64_format : Num.Format exactValue Num.inf64 Num.pack64 52 0x7FF0000000000000 overflow64 where
  narrows := narrowsToNearestEven64
  inf_pos := by decide
  value_eq_some c z h := by
    have hc := pattern64_lt_of_exactValue h
    exact ⟨c.msb, pattern64 c, hc, Option.some.inj (h.symm.trans (exactValue_of_finite hc))⟩
  value_infinity neg := by rw [exactValue, Num.unpack64_inf64, fpValue]
  msb_infinity := msb_inf64
  pack_of_overflow neg _ _ h := pack64_of_overflow neg h
  pack_of_finite neg extra n h := by
    obtain ⟨hsign, hpattern⟩ := pack64_of_finite neg h
    have hvalue := exactValue_of_finite (x := Num.pack64 neg extra n) (hpattern ▸ h)
    rw [hsign, hpattern] at hvalue
    exact ⟨hsign, hvalue, by rw [getLsbD_zero_iff_pattern64, hpattern]⟩

theorem binary32_format : Num.Format exactValue32 Num.inf32 Num.pack32 23 0x7F800000 overflow32 where
  narrows := narrowsToNearestEven32
  inf_pos := by decide
  value_eq_some c z h := by
    have hc := pattern32_lt_of_exactValue32 h
    exact ⟨c.msb, pattern32 c, hc, Option.some.inj (h.symm.trans (exactValue32_of_finite hc))⟩
  value_infinity neg := by rw [exactValue32, Num.unpack32_inf32, fpValue]
  msb_infinity := msb_inf32
  pack_of_overflow neg _ _ h := pack32_of_overflow neg h
  pack_of_finite neg extra n h := by
    obtain ⟨hsign, hpattern⟩ := pack32_of_finite neg h
    have hvalue := exactValue32_of_finite (w := Num.pack32 neg extra n) (hpattern ▸ h)
    rw [hsign, hpattern] at hvalue
    exact ⟨hsign, hvalue, by rw [getLsbD_zero_iff_pattern32, hpattern]⟩

/-- The number `n / 2^extra` that is narrowed lies on the same side of every midpoint `T / 2` of magnitudes as the exact magnitude
`num / den`. -/
def SameSide (extra n num den : Nat) : Prop :=
  ∀ T : Nat, (2 * num ≤ T * den ↔ 2 * n ≤ T * 2 ^ extra) ∧ (T * den ≤ 2 * num ↔ T * 2 ^ extra ≤ 2 * n)

/-- The exact magnitude is nearer to the same one of two magnitudes. -/
theorem SameSide.distance_le_iff {extra n num den : Nat} (h : SameSide extra n num den) (hden : 0 < den) (a b : Nat) :
    distance num (a * den : Nat) ≤ distance num (b * den : Nat) ↔ distance n (a <<< extra : Nat) ≤ distance n (b <<< extra : Nat) := by
  obtain ⟨hbelow, habove⟩ := h (a + b)
  rw [distance_le_distance_iff, distance_le_distance_iff, Nat.shiftLeft_eq, Nat.shiftLeft_eq, Nat.mul_lt_mul_right hden,
    Nat.mul_lt_mul_right hden, Nat.mul_lt_mul_right (Nat.two_pow_pos extra), Nat.mul_lt_mul_right (Nat.two_pow_pos extra),
    ← Nat.add_mul, ← Nat.add_mul, hbelow, habove]

/-- Magnitudes of one sign are as far apart as the values. -/
theorem distance_signedInt_same (neg : Bool) (a b : Nat) : distance (Num.signedInt neg a) (Num.signedInt neg b) = distance a b := by
  cases neg
  · rfl
  · simp only [distance, Num.signedInt, if_true]
    omega

theorem distance_signedInt_opposite (neg : Bool) (a b : Nat) : distance (Num.signedInt neg a) (Num.signedInt (!neg) b) = a + b := by
  cases neg
  · simp only [distance, Num.signedInt, Bool.not_false, if_true, Bool.false_eq_true, if_false]
    omega
  · simp only [distance, Num.signedInt, Bool.not_true, if_true, Bool.false_eq_true, if_false]
    omega

/-- Zero has both signs, and any other magnitude has one of them. -/
theorem signedInt_same_or_opposite (t neg : Bool) (m : Nat) :
    Num.signedInt t m = Num.signedInt neg m ∨ (t = !neg ∧ 0 < m) := by
  rcases Nat.eq_zero_or_pos m with rfl | hm
  · left
    cases t <;> cases neg <;> rfl
  · cases t <;> cases neg <;> simp [hm]

/-- Packing rounds correctly every exact value that the narrowed number stands for. A value of the other sign is never nearer, since
zero lies between. -/
theorem Num.Format.correctlyRounded {w : Nat} {value : BitVec w → Option Int} {infinity : Bool → BitVec w}
    {pack : Bool → Nat → Nat → BitVec w} {frac inf overflow : Nat} (hf : Num.Format value infinity pack frac inf overflow)
    (neg : Bool) {extra n num den : Nat} (hden : 0 < den) (hside : SameSide extra n num den) :
    CorrectlyRounded value infinity overflow (pack neg extra n) neg (Num.signedInt neg num) den := by
  obtain ⟨hnearest, hoverflow⟩ := hf.narrows extra n
  have hover : inf ≤ Num.roundMag frac extra n ↔ overflow * den ≤ num := by
    rw [hoverflow, Nat.shiftLeft_eq]
    have := (hside (2 * overflow)).2
    rw [Nat.mul_assoc, Nat.mul_assoc] at this
    omega
  rcases Nat.lt_or_ge (Num.roundMag frac extra n) inf with hfinite | hinf
  · obtain ⟨hsign, hvalue, hbit⟩ := hf.pack_of_finite neg extra n hfinite
    have hnone : value (pack neg extra n) = none ↔ overflow * den ≤ (Num.signedInt neg num).natAbs := by
      rw [Num.natAbs_signedInt, ← hover, hvalue]
      simpa using hfinite
    refine ⟨hsign, fun x hx c z hz => ?_, hnone, fun h => ?_⟩
    · obtain rfl : Num.signedInt neg (magOfPattern frac (Num.roundMag frac extra n)) = x := Option.some.inj (hvalue.symm.trans hx)
      obtain ⟨t, q, hq, rfl⟩ := hf.value_eq_some c z hz
      have hmag (q : Nat) (hq : q < inf) :
          distance num (magOfPattern frac (Num.roundMag frac extra n) * den : Nat) ≤ distance num (magOfPattern frac q * den : Nat) :=
        (hside.distance_le_iff hden _ _).mpr (hnearest hfinite q hq).1
      rw [hbit, ← Num.signedInt_mul, ← Num.signedInt_mul, distance_signedInt_same]
      rcases signedInt_same_or_opposite t neg (magOfPattern frac q) with hsame | ⟨hopposite, hpos⟩
      · rw [Num.signedInt_mul t, hsame, ← Num.signedInt_mul, distance_signedInt_same]
        refine ⟨hmag q hq, fun heq hne => (hnearest hfinite q hq).2 (le_antisymm (hnearest hfinite q hq).1 ?_) fun hqr => ?_⟩
        · exact (hside.distance_le_iff hden _ _).mp heq.ge
        · exact hne (by rw [hqr])
      · have hzero := hmag 0 hf.inf_pos
        rw [magOfPattern_zero, Nat.zero_mul, show distance num (0 : Nat) = num by simp [distance]] at hzero
        have hapart := Nat.mul_pos hpos hden
        rw [hopposite, distance_signedInt_opposite]
        exact ⟨by omega, fun heq => absurd heq (by omega)⟩
    · rw [hvalue] at h
      cases h
  · rw [hf.pack_of_overflow neg extra n hinf]
    refine ⟨hf.msb_infinity neg, fun x hx => ?_, ?_, fun _ => rfl⟩
    · rw [hf.value_infinity] at hx
      cases hx
    · rw [Num.natAbs_signedInt, ← hover]
      simpa [hf.value_infinity] using hinf

end Sys2Proof.Machine
end

section
/-! The comparisons of NUM by value (00_scope.md R17; decisions D12, D17).

The place of a slot in the order is its pattern under its sign (`orderKey_eq`), as its value is its magnitude under its sign, and magnitudes
grow with patterns: so the two orders agree. -/

namespace Sys2Proof.Machine

theorem orderKey_eq (x : Slot) : Num.orderKey x = Num.signedInt x.msb (pattern64 x) := rfl

/-! ### NaNs and the places of the other values -/

theorem isNaN_eq_false_iff (x : Slot) : Num.isNaN x = false ↔ pattern64 x ≤ 0x7FF0000000000000 := by
  rw [Num.isNaN, beq_eq_false_iff_ne]
  rcases unpack64_cases x with ⟨hlt, hx⟩ | ⟨hinf, hx⟩ | ⟨hgt, hx⟩
  · simpa [hx] using hlt.le
  · rw [hx, hinf, pattern64_inf64]
    simp
  · simpa [hx] using hgt

theorem isNaN_of_exactValue {x : Slot} {v : Int} (h : exactValue x = some v) : Num.isNaN x = false :=
  (isNaN_eq_false_iff x).mpr (pattern64_lt_of_exactValue h).le

/-- With a NaN no relation holds. -/
theorem compare_of_isNaN {a b : Slot} (h : Num.isNaN a = true ∨ Num.isNaN b = true) :
    Num.feq a b = false ∧ Num.flt a b = false ∧ Num.fgt a b = false := by
  rcases h with h | h <;> simp [Num.feq, Num.flt, Num.fgt, h]

/-- Without one the relations are those of the places. -/
theorem compare_iff {a b : Slot} (ha : Num.isNaN a = false) (hb : Num.isNaN b = false) :
    (Num.flt a b = true ↔ Num.orderKey a < Num.orderKey b) ∧ (Num.feq a b = true ↔ Num.orderKey a = Num.orderKey b)
      ∧ (Num.fgt a b = true ↔ Num.orderKey b < Num.orderKey a) := by
  simp [Num.feq, Num.flt, Num.fgt, ha, hb]

/-- Exactly one of the relations holds. -/
theorem compare_total {a b : Slot} (ha : Num.isNaN a = false) (hb : Num.isNaN b = false) :
    (Num.flt a b = true ∧ Num.feq a b = false ∧ Num.fgt a b = false) ∨ (Num.flt a b = false ∧ Num.feq a b = true ∧ Num.fgt a b = false)
      ∨ (Num.flt a b = false ∧ Num.feq a b = false ∧ Num.fgt a b = true) := by
  obtain ⟨hlt, heq, hgt⟩ := compare_iff ha hb
  simp only [← Bool.not_eq_true, hlt, heq, hgt]
  omega

/-! ### The order of the exact values -/

/-- Putting signs on magnitudes that grow with their patterns keeps the order. -/
theorem signedInt_lt_iff_of_strictMono {f : Nat → Nat} (hf : StrictMono f) (hzero : f 0 = 0) (s t : Bool) (p q : Nat) :
    Num.signedInt s (f p) < Num.signedInt t (f q) ↔ Num.signedInt s p < Num.signedInt t q := by
  have hpos (k : Nat) : 0 < f k ↔ 0 < k := by
    simpa only [hzero] using hf.lt_iff_lt (a := 0) (b := k)
  have hp := hpos p
  have hq := hpos q
  have hpq : f p < f q ↔ p < q := hf.lt_iff_lt
  have hqp : f q < f p ↔ q < p := hf.lt_iff_lt
  cases s <;> cases t <;> simp only [Num.signedInt, if_true, Bool.false_eq_true, if_false] <;> omega

theorem exactValue_lt_iff {a b : Slot} {u v : Int} (ha : exactValue a = some u) (hb : exactValue b = some v) :
    u < v ↔ Num.orderKey a < Num.orderKey b := by
  have hu := Option.some.inj (ha.symm.trans (exactValue_of_finite (pattern64_lt_of_exactValue ha)))
  have hv := Option.some.inj (hb.symm.trans (exactValue_of_finite (pattern64_lt_of_exactValue hb)))
  rw [hu, hv, orderKey_eq, orderKey_eq]
  exact signedInt_lt_iff_of_strictMono (magOfPattern_strictMono 52) (magOfPattern_zero 52) _ _ _ _

theorem compare_exactValue {a b : Slot} {u v : Int} (ha : exactValue a = some u) (hb : exactValue b = some v) :
    (Num.flt a b = true ↔ u < v) ∧ (Num.feq a b = true ↔ u = v) ∧ (Num.fgt a b = true ↔ v < u) := by
  obtain ⟨hlt, heq, hgt⟩ := compare_iff (isNaN_of_exactValue ha) (isNaN_of_exactValue hb)
  have huv := exactValue_lt_iff ha hb
  have hvu := exactValue_lt_iff hb ha
  rw [hlt, heq, hgt]
  omega

/-! ### The ends of the order, and zero -/

/-- The place of an infinity is the last on its side, and no other value has it. -/
theorem orderKey_ends {x : Slot} (hx : Num.isNaN x = false) :
    (Num.orderKey x < Num.orderKey Num.pinf64 ↔ x ≠ Num.pinf64) ∧ (Num.orderKey Num.ninf64 < Num.orderKey x ↔ x ≠ Num.ninf64) := by
  have hle := (isNaN_eq_false_iff x).mp hx
  have hp : Num.orderKey Num.pinf64 = 0x7FF0000000000000 := rfl
  have hn : Num.orderKey Num.ninf64 = -0x7FF0000000000000 := rfl
  have hkey : Num.orderKey x = Num.signedInt x.msb (pattern64 x) := orderKey_eq x
  constructor
  · refine ⟨fun hlt h => absurd (h ▸ hlt) (lt_irrefl _), fun hne => ?_⟩
    by_contra hnot
    refine hne ?_
    cases hs : x.msb <;> simp only [hs, Num.signedInt, if_true, Bool.false_eq_true, if_false] at hkey
    · exact eq_of_msb_pattern64 hs (show _ = 0x7FF0000000000000 by omega)
    · omega
  · refine ⟨fun hlt h => absurd (h ▸ hlt) (lt_irrefl _), fun hne => ?_⟩
    by_contra hnot
    refine hne ?_
    cases hs : x.msb <;> simp only [hs, Num.signedInt, if_true, Bool.false_eq_true, if_false] at hkey
    · omega
    · exact eq_of_msb_pattern64 hs (show _ = 0x7FF0000000000000 by omega)

theorem compare_infinities {x : Slot} (hx : Num.isNaN x = false) :
    (Num.flt x Num.pinf64 = true ↔ x ≠ Num.pinf64) ∧ (Num.flt Num.ninf64 x = true ↔ x ≠ Num.ninf64)
      ∧ (Num.fgt Num.pinf64 x = true ↔ x ≠ Num.pinf64) ∧ (Num.fgt x Num.ninf64 = true ↔ x ≠ Num.ninf64) := by
  have hp : Num.isNaN Num.pinf64 = false := (isNaN_eq_false_iff _).mpr (pattern64_inf64 false).le
  have hn : Num.isNaN Num.ninf64 = false := (isNaN_eq_false_iff _).mpr (pattern64_inf64 true).le
  obtain ⟨hpinf, hninf⟩ := orderKey_ends hx
  rw [(compare_iff hx hp).1, (compare_iff hn hx).1, (compare_iff hp hx).2.2, (compare_iff hx hn).2.2]
  exact ⟨hpinf, hninf, hpinf, hninf⟩

/-- Both zeros have place 0, and nothing else has (R18). -/
theorem isZero_iff (x : Slot) : Num.isZero x = true ↔ x = Num.pzero64 ∨ x = Num.nzero64 := by
  have hkey : Num.orderKey x = 0 ↔ pattern64 x = 0 := by
    rw [orderKey_eq, ← Int.natAbs_eq_zero, Num.natAbs_signedInt]
  have hzeros : pattern64 x = 0 ↔ x = Num.pzero64 ∨ x = Num.nzero64 := by
    refine ⟨fun h => ?_, fun h => by rcases h with rfl | rfl <;> rfl⟩
    cases hs : x.msb
    · exact .inl (eq_of_msb_pattern64 hs h)
    · exact .inr (eq_of_msb_pattern64 hs h)
  rw [← hzeros, ← hkey]
  refine ⟨fun h => ?_, fun h => ?_⟩
  · simp only [Num.isZero, Num.feq, Bool.and_eq_true, beq_iff_eq] at h
    exact h.2
  · have hx : Num.isNaN x = false := (isNaN_eq_false_iff x).mpr (by rw [hkey.mp h]; decide)
    exact (compare_iff hx (by rfl)).2.1.mpr h

/-- Settles O22: quiet, total, ordered by value, with the infinities at the ends and the two zeros at zero. -/
theorem comparisonIsQuietAndTotal : Obligations.ComparisonIsQuietAndTotal :=
  ⟨fun _ _ => compare_of_isNaN, fun _ _ => compare_total, fun _ _ _ _ => compare_exactValue, fun _ => compare_infinities, isZero_iff⟩

end Sys2Proof.Machine
end

section
/-! Arithmetic by value (00_scope.md R17; decision D17): which operands give NaNs, infinities and zeros (42_arithmetic.md R148), and the
correct rounding of sums, differences, products and quotients of finite doubles.

A difference is the sum with the other sign (`unpack64_xor_sign64`). Sum and product are narrowed exactly; the quotient is narrowed after
a division whose remainder is kept as one odd bit, which lies on the right side of every midpoint (`sameSide_quotientSticky`). -/

namespace Sys2Proof.Machine

/-! ### Operands -/

theorem Num.unpack64_of_isNaN {x : Slot} (h : Num.isNaN x = true) : Num.unpack64 x = .nan := beq_iff_eq.mp h

/-- A finite double is a sign, its sign bit, and a magnitude. -/
theorem unpack64_of_exactValue {x : Slot} {v : Int} (h : exactValue x = some v) :
    ∃ m : Nat, Num.unpack64 x = .fin x.msb m ∧ v = Num.signedInt x.msb m := by
  obtain ⟨s, m, hx, rfl⟩ := exactValue_eq_some h
  obtain ⟨rfl, -⟩ := Num.msb_and_representable_of_unpack64 hx
  exact ⟨m, hx, rfl⟩

theorem signedInt_eq_zero_iff (s : Bool) (m : Nat) : Num.signedInt s m = 0 ↔ m = 0 := by
  rw [← Int.natAbs_eq_zero, Num.natAbs_signedInt]

/-- The value with the other sign. -/
def Num.Fp.neg : Num.Fp → Num.Fp
  | .nan => .nan
  | .inf s => .inf !s
  | .fin s m => .fin (!s) m

theorem msb_xor_sign64 (x : Slot) : (x ^^^ Num.sign64).msb = !x.msb := by
  rw [BitVec.msb_xor, show Num.sign64.msb = true by decide, Bool.xor_true]

theorem pattern64_xor_sign64 (x : Slot) : pattern64 (x ^^^ Num.sign64) = pattern64 x := by
  rw [pattern64, BitVec.extractLsb'_xor, show Num.sign64.extractLsb' 0 63 = 0#63 by decide, BitVec.xor_zero, pattern64]

/-- Changing the sign bit changes the sign and nothing else. -/
theorem unpack64_xor_sign64 (x : Slot) : Num.unpack64 (x ^^^ Num.sign64) = (Num.unpack64 x).neg := by
  rw [unpack64_eq, unpack64_eq, msb_xor_sign64, pattern64_xor_sign64, Num.fieldValue, Num.fieldValue]
  split_ifs <;> rfl

theorem exactValue_xor_sign64 {x : Slot} {v : Int} (h : exactValue x = some v) : exactValue (x ^^^ Num.sign64) = some (-v) := by
  obtain ⟨s, m, hx, rfl⟩ := exactValue_eq_some h
  rw [exactValue, unpack64_xor_sign64, hx, Num.Fp.neg, fpValue, Num.signedInt_not]

theorem isNaN_xor_sign64 (x : Slot) : Num.isNaN (x ^^^ Num.sign64) = Num.isNaN x := by
  rw [Num.isNaN, Num.isNaN, unpack64_xor_sign64]
  cases Num.unpack64 x <;> rfl

theorem inf64_xor_sign64 (p : Bool) : Num.inf64 p ^^^ Num.sign64 = Num.inf64 !p := by cases p <;> rfl

/-! ### NaN operands -/

theorem isNaN_fadd {a b : Slot} (d : Slot) (h : Num.isNaN a = true ∨ Num.isNaN b = true) : Num.isNaN (Num.fadd a b d) = true := by
  rcases h with h | h <;> simp only [Num.fadd, Num.unpack64_of_isNaN h]
  · exact Num.isNaN_nan64 d
  · cases Num.unpack64 a <;> exact Num.isNaN_nan64 d

theorem isNaN_fsub {a b : Slot} (d : Slot) (h : Num.isNaN a = true ∨ Num.isNaN b = true) : Num.isNaN (Num.fsub a b d) = true :=
  isNaN_fadd d (h.imp_right (isNaN_xor_sign64 b).trans)

theorem isNaN_fmul {a b : Slot} (d : Slot) (h : Num.isNaN a = true ∨ Num.isNaN b = true) : Num.isNaN (Num.fmul a b d) = true := by
  rcases h with h | h <;> simp only [Num.fmul, Num.unpack64_of_isNaN h]
  · exact Num.isNaN_nan64 d
  · cases Num.unpack64 a <;> exact Num.isNaN_nan64 d

theorem isNaN_fdiv {a b : Slot} (d : Slot) (h : Num.isNaN a = true ∨ Num.isNaN b = true) : Num.isNaN (Num.fdiv a b d) = true := by
  rcases h with h | h <;> simp only [Num.fdiv, Num.unpack64_of_isNaN h]
  · exact Num.isNaN_nan64 d
  · cases Num.unpack64 a <;> exact Num.isNaN_nan64 d

/-! ### Infinite operands -/

theorem fadd_inf_inf (p q : Bool) (d : Slot) :
    Num.fadd (Num.inf64 p) (Num.inf64 q) d = if p = q then Num.inf64 p else Num.nan64 d := by
  rw [Num.fadd, Num.unpack64_inf64, Num.unpack64_inf64]

theorem fsub_inf_inf (p q : Bool) (d : Slot) :
    Num.fsub (Num.inf64 p) (Num.inf64 q) d = if p = q then Num.nan64 d else Num.inf64 p := by
  rw [Num.fsub, inf64_xor_sign64, fadd_inf_inf]
  cases p <;> cases q <;> rfl

theorem fmul_inf_inf (p q : Bool) (d : Slot) : Num.fmul (Num.inf64 p) (Num.inf64 q) d = Num.inf64 (p ^^ q) := by
  rw [Num.fmul, Num.unpack64_inf64, Num.unpack64_inf64]

theorem fdiv_inf_inf (p q : Bool) (d : Slot) : Num.fdiv (Num.inf64 p) (Num.inf64 q) d = Num.nan64 d := by
  rw [Num.fdiv, Num.unpack64_inf64, Num.unpack64_inf64]

section Finite

variable {x : Slot} {s : Bool} {m : Nat}

theorem fadd_inf_finite (p : Bool) (d : Slot) (hx : Num.unpack64 x = .fin s m) : Num.fadd (Num.inf64 p) x d = Num.inf64 p := by
  rw [Num.fadd, Num.unpack64_inf64, hx]

theorem fadd_finite_inf (p : Bool) (d : Slot) (hx : Num.unpack64 x = .fin s m) : Num.fadd x (Num.inf64 p) d = Num.inf64 p := by
  rw [Num.fadd, Num.unpack64_inf64, hx]

theorem fsub_inf_finite (p : Bool) (d : Slot) (hx : Num.unpack64 x = .fin s m) : Num.fsub (Num.inf64 p) x d = Num.inf64 p :=
  fadd_inf_finite p d ((unpack64_xor_sign64 x).trans (congrArg Num.Fp.neg hx))

theorem fsub_finite_inf (p : Bool) (d : Slot) (hx : Num.unpack64 x = .fin s m) : Num.fsub x (Num.inf64 p) d = Num.inf64 !p := by
  rw [Num.fsub, inf64_xor_sign64, fadd_finite_inf _ d hx]

theorem fmul_inf_finite (p : Bool) (d : Slot) (hx : Num.unpack64 x = .fin s m) :
    Num.fmul (Num.inf64 p) x d = if m = 0 then Num.nan64 d else Num.inf64 (p ^^ s) := by
  rw [Num.fmul, Num.unpack64_inf64, hx]

theorem fmul_finite_inf (p : Bool) (d : Slot) (hx : Num.unpack64 x = .fin s m) :
    Num.fmul x (Num.inf64 p) d = if m = 0 then Num.nan64 d else Num.inf64 (s ^^ p) := by
  rw [Num.fmul, Num.unpack64_inf64, hx]

theorem fdiv_inf_finite (p : Bool) (d : Slot) (hx : Num.unpack64 x = .fin s m) : Num.fdiv (Num.inf64 p) x d = Num.inf64 (p ^^ s) := by
  rw [Num.fdiv, Num.unpack64_inf64, hx]

theorem pack64_zero (neg : Bool) : Num.pack64 neg 0 0 = if neg then Num.nzero64 else Num.pzero64 := by cases neg <;> decide

theorem fdiv_finite_inf (p : Bool) (d : Slot) (hx : Num.unpack64 x = .fin s m) :
    Num.fdiv x (Num.inf64 p) d = if s ^^ p then Num.nzero64 else Num.pzero64 := by
  rw [Num.fdiv, Num.unpack64_inf64, hx]
  exact pack64_zero _

end Finite

/-- An infinity and a finite operand, in both orders. -/
theorem arithmetic_inf_finite (p : Bool) (x d : Slot) (v : Int) (h : exactValue x = some v) :
    Num.fadd (Num.inf64 p) x d = Num.inf64 p ∧ Num.fadd x (Num.inf64 p) d = Num.inf64 p
      ∧ Num.fsub (Num.inf64 p) x d = Num.inf64 p ∧ Num.fsub x (Num.inf64 p) d = Num.inf64 (!p)
      ∧ (if v = 0 then Num.isNaN (Num.fmul (Num.inf64 p) x d) = true ∧ Num.isNaN (Num.fmul x (Num.inf64 p) d) = true
        else Num.fmul (Num.inf64 p) x d = Num.inf64 (p ^^ x.msb) ∧ Num.fmul x (Num.inf64 p) d = Num.inf64 (x.msb ^^ p))
      ∧ (v ≠ 0 → Num.fdiv (Num.inf64 p) x d = Num.inf64 (p ^^ x.msb))
      ∧ Num.fdiv x (Num.inf64 p) d = if x.msb ^^ p then Num.nzero64 else Num.pzero64 := by
  obtain ⟨m, hx, rfl⟩ := unpack64_of_exactValue h
  refine ⟨fadd_inf_finite p d hx, fadd_finite_inf p d hx, fsub_inf_finite p d hx, fsub_finite_inf p d hx, ?_,
    fun _ => fdiv_inf_finite p d hx, fdiv_finite_inf p d hx⟩
  rw [fmul_inf_finite p d hx, fmul_finite_inf p d hx]
  simp only [signedInt_eq_zero_iff]
  split
  next => exact ⟨Num.isNaN_nan64 d, Num.isNaN_nan64 d⟩
  next => exact ⟨rfl, rfl⟩

/-- Settles O46: each operation on the kinds of its operands. -/
theorem naNAndInfinityOperands : Obligations.NaNAndInfinityOperands := by
  refine ⟨fun a b d h => ⟨isNaN_fadd d h, isNaN_fsub d h, isNaN_fmul d h, isNaN_fdiv d h⟩, fun p q d => ?_, arithmetic_inf_finite⟩
  rw [fadd_inf_inf, fsub_inf_inf, fdiv_inf_inf]
  refine ⟨?_, ?_, fmul_inf_inf p q d, Num.isNaN_nan64 d⟩
  · split
    next => rfl
    next => exact Num.isNaN_nan64 d
  · split
    next => exact Num.isNaN_nan64 d
    next => rfl

/-! ### Sum and difference -/

/-- A number that is narrowed as it stands. -/
theorem sameSide_self (extra n den : Nat) (hden : den = 1 <<< extra) : SameSide extra n n den := by
  rw [hden, Nat.one_shiftLeft]
  exact fun _ => ⟨Iff.rfl, Iff.rfl⟩

theorem signedInt_add (s : Bool) (m n : Nat) : Num.signedInt s (m + n) = Num.signedInt s m + Num.signedInt s n := by
  cases s
  · exact Int.natCast_add m n
  · exact (congrArg Neg.neg (Int.natCast_add m n)).trans Int.neg_add

theorem signedInt_sub (s : Bool) {m n : Nat} (h : n ≤ m) : Num.signedInt s (m - n) = Num.signedInt s m - Num.signedInt s n := by
  have hadd := signedInt_add s (m - n) n
  rw [Nat.sub_add_cancel h] at hadd
  omega

/-- A value that is not zero has its own sign. -/
theorem sign_of_signedInt_ne_zero {s : Bool} {m : Nat} (h : Num.signedInt s m ≠ 0) : s = decide (Num.signedInt s m < 0) := by
  have hm := mt (signedInt_eq_zero_iff s m).mpr h
  cases s <;> simp [Num.signedInt]
  omega

theorem addSigned_value (s : Bool) (m : Nat) (t : Bool) (n : Nat) :
    Num.signedInt (Num.addSigned s m t n).1 (Num.addSigned s m t n).2 = Num.signedInt s m + Num.signedInt t n := by
  unfold Num.addSigned
  split_ifs with hsame hlt hgt
  · rw [signedInt_add, hsame]
  all_goals rw [Bool.eq_not_of_ne (Ne.symm hsame), Num.signedInt_not]
  · rw [signedInt_sub s hlt.le, Int.sub_eq_add_neg]
  · rw [Num.signedInt_not, signedInt_sub s hgt.le]
    omega
  · rw [show m = n by omega]
    exact (Int.add_right_neg _).symm

/-- The sign of a sum: that of its value, and of a zero sum `+0` but for two negative zeros. -/
theorem addSigned_sign (s : Bool) (m : Nat) (t : Bool) (n : Nat) :
    (Num.addSigned s m t n).1
      = if Num.signedInt s m + Num.signedInt t n = 0 then s && t else decide (Num.signedInt s m + Num.signedInt t n < 0) := by
  rw [← addSigned_value]
  split
  next hzero =>
    rw [signedInt_eq_zero_iff] at hzero
    unfold Num.addSigned at hzero ⊢
    split_ifs at hzero ⊢ with hsame hlt hgt
    · rw [hsame, Bool.and_self]
    · exact absurd hzero (Nat.sub_pos_of_lt hlt).ne'
    · exact absurd hzero (Nat.sub_pos_of_lt hgt).ne'
    · rw [Bool.eq_not_of_ne (Ne.symm hsame), Bool.and_not_self]
  next hvalue => exact sign_of_signedInt_ne_zero hvalue

theorem roundedTo64_fadd {a b : Slot} (d : Slot) {u v : Int} (ha : exactValue a = some u) (hb : exactValue b = some v) :
    RoundedTo64 (Num.fadd a b d) (if u + v = 0 then a.msb && b.msb else decide (u + v < 0)) (u + v) 1 := by
  obtain ⟨m, hm, rfl⟩ := unpack64_of_exactValue ha
  obtain ⟨n, hn, rfl⟩ := unpack64_of_exactValue hb
  rw [Num.fadd, hm, hn, ← addSigned_sign, ← addSigned_value]
  exact binary64_format.correctlyRounded _ Nat.one_pos (sameSide_self 0 _ 1 rfl)

/-- Settles O44: the sum of signed magnitudes is exact before it is narrowed, and a difference is such a sum. -/
theorem sumAndDifferenceAreCorrectlyRounded : Obligations.SumAndDifferenceAreCorrectlyRounded := by
  intro a b d u v ha hb
  refine ⟨roundedTo64_fadd d ha hb, ?_⟩
  have hdifference := roundedTo64_fadd d ha (exactValue_xor_sign64 hb)
  rwa [msb_xor_sign64, ← Int.sub_eq_add_neg] at hdifference

/-! ### Product and quotient -/

theorem signedInt_mul_signedInt (s t : Bool) (m n : Nat) :
    Num.signedInt s m * Num.signedInt t n = Num.signedInt (s ^^ t) (m * n) := by
  cases s <;> cases t <;> simp [Num.signedInt]

theorem roundedTo64_fmul {a b : Slot} (d : Slot) {u v : Int} (ha : exactValue a = some u) (hb : exactValue b = some v) :
    RoundedTo64 (Num.fmul a b d) (a.msb ^^ b.msb) (u * v) unitsOfOne := by
  obtain ⟨m, hm, rfl⟩ := unpack64_of_exactValue ha
  obtain ⟨n, hn, rfl⟩ := unpack64_of_exactValue hb
  rw [Num.fmul, hm, hn, signedInt_mul_signedInt]
  exact binary64_format.correctlyRounded _ unitsOfOne_pos (sameSide_self 1074 _ _ rfl)

/-- Twice a quotient and one more for a remainder: below, at or above a whole number as the exact quotient is. -/
theorem sticky_le_iff {X n T : Nat} (hn : 0 < n) :
    (X ≤ T * n ↔ 2 * (X / n) + (if X % n = 0 then 0 else 1) ≤ 2 * T)
      ∧ (T * n ≤ X ↔ 2 * T ≤ 2 * (X / n) + (if X % n = 0 then 0 else 1)) := by
  have hge : T ≤ X / n ↔ T * n ≤ X := Nat.le_div_iff_mul_le hn
  have hlt : X / n < T ↔ X < T * n := Nat.div_lt_iff_lt_mul hn
  split
  next hexact =>
    have heq : X = T * n ↔ X / n = T := by
      rw [← Nat.div_mul_cancel (Nat.dvd_of_mod_eq_zero hexact), Nat.mul_div_cancel _ hn, Nat.mul_left_inj hn.ne']
    omega
  next hrest =>
    have hne : X ≠ T * n := fun h => hrest (h ▸ Nat.mul_mod_left T n)
    omega

theorem sameSide_quotientSticky (m : Nat) {n : Nat} (hn : 0 < n) :
    SameSide 2 (Num.quotientSticky m n) (m * unitsOfOne) n := by
  intro T
  have hshift : m <<< 1075 = 2 * (m * unitsOfOne) := by
    rw [Nat.shiftLeft_succ, shiftLeft_units]
  obtain ⟨hbelow, habove⟩ := sticky_le_iff (X := 2 * (m * unitsOfOne)) (T := T) hn
  rw [Num.quotientSticky, hshift, hbelow, habove]
  omega

theorem roundedTo64_fdiv {a b : Slot} (d : Slot) {u v : Int} (ha : exactValue a = some u) (hb : exactValue b = some v) (hv : v ≠ 0) :
    RoundedTo64 (Num.fdiv a b d) (a.msb ^^ b.msb) (u * unitsOfOne * v.sign) v.natAbs := by
  obtain ⟨m, hm, rfl⟩ := unpack64_of_exactValue ha
  obtain ⟨n, hn, rfl⟩ := unpack64_of_exactValue hb
  have hne : n ≠ 0 := mt (signedInt_eq_zero_iff b.msb n).mpr hv
  have hsign : (Num.signedInt b.msb n).sign = Num.signedInt b.msb 1 := by
    cases b.msb
    · exact Int.sign_eq_one_of_pos (by simp [Num.signedInt]; omega)
    · exact Int.sign_eq_neg_one_of_neg (by simp [Num.signedInt]; omega)
  rw [Num.fdiv, hm, hn, hsign, ← Num.signedInt_mul, signedInt_mul_signedInt, Nat.mul_one, Num.natAbs_signedInt]
  simp only [if_neg hne]
  exact binary64_format.correctlyRounded _ (Nat.pos_of_ne_zero hne) (sameSide_quotientSticky m (Nat.pos_of_ne_zero hne))

/-- Settles O45: the product is exact before it is narrowed; the quotient keeps whether a remainder is left. -/
theorem productAndQuotientAreCorrectlyRounded : Obligations.ProductAndQuotientAreCorrectlyRounded := fun _ _ d _ _ ha hb =>
  ⟨roundedTo64_fmul d ha hb, roundedTo64_fdiv d ha hb⟩

end Sys2Proof.Machine
end

section
/-! The conversions between the formats and the 64-bit integers (00_scope.md R17; decisions D18, D24), and the table of `Round`
(48_exchange_and_rounding.md R302).

A single widens exactly, since its magnitude is representable in binary64 (`representable_widened`), and narrows back to its own pattern
(`roundMag_magOfPattern`). For the table, every draw is set aside (`roundNearest_eq`, `roundIntegral_eq`), so that what is left of a row is
a closed fact. -/

namespace Sys2Proof.Machine

/-! ### NaN results and their draws -/

theorem unpack32_eq_nan {w : Word32} (he : w.extractLsb' 23 8 = 0xFF#8) (hf : w.extractLsb' 0 23 ≠ 0#23) : Num.unpack32 w = .nan := by
  have hne : (w.extractLsb' 0 23).toNat ≠ 0 := fun h => hf (BitVec.eq_of_toNat_eq h)
  unfold Num.unpack32 Num.fieldValue
  rw [he, if_pos (by rfl), if_neg hne]

/-- Whatever the draw is, it is forced to a NaN of the single format (log entry 6). -/
theorem unpack32_nan32 (d : Slot) : Num.unpack32 (Num.nan32 d) = .nan := by
  rw [Num.nan32]
  have hexp : (d.setWidth 32 ||| 0x7F800000#32).extractLsb' 23 8 = 0xFF#8 := by
    rw [BitVec.extractLsb'_or]
    exact BitVec.or_allOnes
  split
  next hzero =>
    apply unpack32_eq_nan
    · rw [BitVec.extractLsb'_or, hexp]; rfl
    · rw [BitVec.extractLsb'_or, hzero]; decide
  next hpayload => exact unpack32_eq_nan hexp hpayload

/-- Setting bits that are set already changes nothing. -/
theorem or_eq_self_of_bits {w : Nat} {x mask : BitVec w} (h : ∀ k < w, mask.getLsbD k = true → x.getLsbD k = true) :
    x ||| mask = x := by
  refine BitVec.eq_of_getLsbD_eq fun k hk => ?_
  rw [BitVec.getLsbD_or]
  cases hmask : mask.getLsbD k with
  | false => exact Bool.or_false _
  | true => exact (Bool.or_true _).trans (h k hk hmask).symm

/-- The fields of a NaN: an exponent of all ones and a fraction that is not zero. -/
theorem nan_fields64 {x : Slot} (h : Num.unpack64 x = .nan) : x.extractLsb' 52 11 = BitVec.allOnes 11 ∧ x.extractLsb' 0 52 ≠ 0#52 := by
  unfold Num.unpack64 Num.fieldValue at h
  split_ifs at h with hexp hfrac
  exact ⟨BitVec.eq_of_toNat_eq hexp, fun hzero => hfrac (congrArg BitVec.toNat hzero)⟩

theorem nan_fields32 {w : Word32} (h : Num.unpack32 w = .nan) : w.extractLsb' 23 8 = BitVec.allOnes 8 ∧ w.extractLsb' 0 23 ≠ 0#23 := by
  unfold Num.unpack32 Num.fieldValue at h
  split_ifs at h with hexp hfrac
  exact ⟨BitVec.eq_of_toNat_eq hexp, fun hzero => hfrac (congrArg BitVec.toNat hzero)⟩

/-- A bit of a field of all ones is set. -/
theorem getLsbD_of_field_allOnes {w k n : Nat} {x : BitVec w} (h : x.extractLsb' k n = BitVec.allOnes n) {j : Nat} (hk : k ≤ j)
    (hn : j < k + n) : x.getLsbD j = true := by
  have hbit := congrArg (BitVec.getLsbD · (j - k)) h
  have hlt : j - k < n := by omega
  rw [BitVec.getLsbD_extractLsb', BitVec.getLsbD_allOnes, Nat.add_sub_cancel' hk] at hbit
  simpa [hlt] using hbit

/-- Every NaN is the image of itself: no NaN is shut out (log entry 6). -/
theorem nan64_of_isNaN {x : Slot} (h : Num.isNaN x = true) : Num.nan64 x = x := by
  obtain ⟨hexp, hfrac⟩ := nan_fields64 (Num.unpack64_of_isNaN h)
  have hmask : ∀ k < 64, Num.pinf64.getLsbD k = true → 52 ≤ k ∧ k < 52 + 11 := by decide
  have hor : x ||| Num.pinf64 = x := or_eq_self_of_bits fun k hk hbit =>
    getLsbD_of_field_allOnes hexp (hmask k hk hbit).1 (hmask k hk hbit).2
  rw [Num.nan64, hor]
  exact if_neg hfrac

theorem nan32_of_nan {w : Word32} (h : Num.unpack32 w = .nan) : Num.nan32 (w.setWidth 64) = w := by
  obtain ⟨hexp, hfrac⟩ := nan_fields32 h
  have hmask : ∀ k < 32, (0x7F800000#32).getLsbD k = true → 23 ≤ k ∧ k < 23 + 8 := by decide
  have hor : w ||| 0x7F800000#32 = w := or_eq_self_of_bits fun k hk hbit =>
    getLsbD_of_field_allOnes hexp (hmask k hk hbit).1 (hmask k hk hbit).2
  rw [Num.nan32, BitVec.setWidth_setWidth_of_le w (by decide), BitVec.setWidth_eq, hor]
  exact if_neg hfrac

/-! ### Between single and double -/

/-- A magnitude of the single format, in the units of the double format, is representable. -/
theorem representable_widened {p : Nat} (hp : p < 0x7F800000) : Num.Representable (magOfPattern 23 p <<< 925) := by
  obtain ⟨k, g, rfl, hg, hk⟩ := exists_significand 23 p
  refine ⟨g, k + 925, by omega, by omega, ?_⟩
  rw [magOfPattern_significand hg.le hk, Nat.shiftLeft_add, Nat.shiftLeft_eq g k]

/-- Widening a finite single is exact (R17). -/
theorem unpack64_f32ToF64 {w : Word32} (d : Slot) (h : pattern32 w < 0x7F800000) :
    Num.unpack64 (Num.f32ToF64 w d) = .fin w.msb (magOfPattern 23 (pattern32 w) <<< 925) := by
  rw [Num.f32ToF64, unpack32_of_finite h]
  exact Num.unpack64_pack64 _ (representable_widened h)

theorem f32ToF64_inf32 (neg : Bool) (d : Slot) : Num.f32ToF64 (Num.inf32 neg) d = Num.inf64 neg := by
  rw [Num.f32ToF64, Num.unpack32_inf32]

theorem f64ToF32_inf64 (neg : Bool) (d : Slot) : Num.f64ToF32 (Num.inf64 neg) d = Num.inf32 neg := by
  rw [Num.f64ToF32, Num.unpack64_inf64]

/-- Narrowing a widened single gives it back. -/
theorem f64ToF32_f32ToF64 (w : Word32) (d e : Slot) (h : Num.unpack32 w ≠ .nan) : Num.f64ToF32 (Num.f32ToF64 w d) e = w := by
  rcases unpack32_cases w with ⟨hlt, -⟩ | ⟨hinf, -⟩ | ⟨-, hnan⟩
  · rw [Num.f64ToF32, unpack64_f32ToF64 d hlt]
    have hround : Num.roundMag 23 925 (magOfPattern 23 (pattern32 w) <<< 925) = pattern32 w := roundMag_magOfPattern (by decide) _ _
    obtain ⟨hsign, hpattern⟩ := pack32_of_finite w.msb (hround.symm ▸ hlt)
    exact eq_of_msb_pattern32 hsign (hpattern.trans hround)
  · rw [hinf, f32ToF64_inf32, f64ToF32_inf64]
  · exact absurd hnan h

theorem exactValue_f32ToF64 (w : Word32) (d : Slot) (v : Int) (h : exactValue32 w = some v) :
    exactValue (Num.f32ToF64 w d) = some (v * (1 <<< 925 : Nat)) ∧ (Num.f32ToF64 w d).msb = w.msb := by
  have hlt := pattern32_lt_of_exactValue32 h
  have hv := Option.some.inj (h.symm.trans (exactValue32_of_finite hlt))
  have hx := unpack64_f32ToF64 d hlt
  refine ⟨?_, (Num.msb_and_representable_of_unpack64 hx).1⟩
  rw [exactValue_of_unpack64 hx, shiftLeft_eq_mul_shiftLeft, Num.signedInt_mul, hv]

/-- Narrowing a finite double rounds correctly: `2^925` of its units make one of the single format (R17). -/
theorem roundedTo32_f64ToF32 (x d : Slot) (v : Int) (h : exactValue x = some v) :
    RoundedTo32 (Num.f64ToF32 x d) x.msb v (1 <<< 925) := by
  obtain ⟨m, hx, rfl⟩ := unpack64_of_exactValue h
  have hpos : 0 < 1 <<< 925 := by
    rw [Nat.one_shiftLeft]
    exact Nat.two_pow_pos 925
  rw [Num.f64ToF32, hx]
  exact binary32_format.correctlyRounded _ hpos (sameSide_self 925 m _ rfl)

/-! ### Between integer and double -/

theorem signedInt_msb_natAbs_toInt (n : BitVec 64) : Num.signedInt n.msb n.toInt.natAbs = n.toInt := by
  rw [BitVec.msb_eq_toInt]
  simp only [Num.signedInt, decide_eq_true_eq]
  split <;> omega

theorem roundedTo64_i64ToF64 (n : BitVec 64) : RoundedTo64 (Num.i64ToF64 n) n.msb (n.toInt * unitsOfOne) 1 := by
  rw [Num.i64ToF64, shiftLeft_units]
  have hvalue : n.toInt * unitsOfOne = Num.signedInt n.msb (n.toInt.natAbs * unitsOfOne) := by
    rw [Num.signedInt_mul, signedInt_msb_natAbs_toInt]
  rw [hvalue]
  exact binary64_format.correctlyRounded _ Nat.one_pos (sameSide_self 0 _ 1 rfl)

/-- Converting a finite double: its whole part when that is all of it and in range, and the draw otherwise (R17). -/
theorem f64ToI64_of_finite {x d : Slot} {s : Bool} {m : Nat} (hx : Num.unpack64 x = .fin s m) :
    Num.f64ToI64 x d = if m / unitsOfOne * unitsOfOne = m ∧ Num.fitsI64 (Num.signedInt s (m / unitsOfOne)) = true then
      BitVec.ofInt 64 (Num.signedInt s (m / unitsOfOne)) else d := by
  rw [Num.f64ToI64, hx]
  simp only [shiftRight_units, shiftLeft_units]

theorem f64ToI64_of_integer (n : BitVec 64) (x d : Slot) (h : exactValue x = some (n.toInt * unitsOfOne)) : Num.f64ToI64 x d = n := by
  obtain ⟨m, hx, hm⟩ := unpack64_of_exactValue h
  have hmag : m = n.toInt.natAbs * unitsOfOne := by
    have habs := congrArg Int.natAbs hm
    rwa [Num.natAbs_signedInt, Int.natAbs_mul, Int.natAbs_natCast, eq_comm] at habs
  have hq : m / unitsOfOne = n.toInt.natAbs := by rw [hmag, Nat.mul_div_cancel _ unitsOfOne_pos]
  have hsigned : Num.signedInt x.msb n.toInt.natAbs = n.toInt := by
    rw [hmag, Num.signedInt_mul] at hm
    exact (Int.eq_of_mul_eq_mul_right (Int.natCast_ne_zero.mpr unitsOfOne_pos.ne') hm).symm
  have hfits : Num.fitsI64 n.toInt = true := (Num.fitsI64_iff _).mpr ⟨BitVec.le_toInt n, BitVec.toInt_lt⟩
  rw [f64ToI64_of_finite hx, hq, hsigned, if_pos ⟨hmag.symm, hfits⟩, BitVec.ofInt_toInt]

theorem f64ToI64_of_no_integer (x d : Slot) (h : ∀ n : BitVec 64, exactValue x ≠ some (n.toInt * unitsOfOne)) :
    Num.f64ToI64 x d = d := by
  rcases unpack64_cases x with ⟨-, hx⟩ | ⟨-, hx⟩ | ⟨-, hx⟩
  · rw [f64ToI64_of_finite hx]
    refine if_neg fun ⟨hwhole, hfits⟩ => ?_
    obtain ⟨hlo, hhi⟩ := (Num.fitsI64_iff _).mp hfits
    refine h (BitVec.ofInt 64 (Num.signedInt x.msb (magOfPattern 52 (pattern64 x) / unitsOfOne))) ?_
    rw [BitVec.toInt_ofInt_eq_self (by decide) hlo hhi, ← Num.signedInt_mul, hwhole]
    exact exactValue_of_unpack64 hx
  all_goals rw [Num.f64ToI64, hx]

/-- Settles O30: the conversions one by one. -/
theorem conversionsAreExactOrCorrectlyRounded : Obligations.ConversionsAreExactOrCorrectlyRounded := by
  refine ⟨f64ToF32_f32ToF64, exactValue_f32ToF64, roundedTo32_f64ToF32, roundedTo64_i64ToF64, f64ToI64_of_integer,
    f64ToI64_of_no_integer, fun neg d => ⟨f32ToF64_inf32 neg d, f64ToF32_inf64 neg d⟩, fun w d h => ?_, fun x d h => ?_⟩
  · rw [Num.f32ToF64, h]
    exact Num.isNaN_nan64 d
  · rw [Num.f64ToF32, Num.unpack64_of_isNaN h]
    exact unpack32_nan32 d

/-! ### The table of `Round` -/

/-- Which NaN a sum is does not change what it stands for. -/
theorem unpack64_fadd_draw (a b d e : Slot) : Num.unpack64 (Num.fadd a b d) = Num.unpack64 (Num.fadd a b e) := by
  have hnan (x : Slot) : Num.unpack64 (Num.nan64 x) = .nan := Num.unpack64_of_isNaN (Num.isNaN_nan64 x)
  unfold Num.fadd
  split
  case h_3 => split_ifs <;> simp only [hnan]
  all_goals simp only [hnan]

/-- Nearest mode where it does not answer its draw. -/
def nearestResult (x : Slot) : Option Slot :=
  match Num.unpack64 (Num.fadd x Num.half64 0#64) with
  | .nan => none
  | .inf _ => none
  | .fin s m => if Num.fitsI64 (Num.floorInt s m) then some (Num.i64ToF64 (BitVec.ofInt 64 (Num.floorInt s m))) else none

/-- A directed mode where it does not answer some NaN. -/
def integralResult (dir : Num.Direction) (x : Slot) : Option Slot :=
  match Num.unpack64 x with
  | .nan => none
  | .inf s => some (Num.inf64 s)
  | .fin s m => some (Num.pack64 s 0 (Num.integralMag dir s m <<< 1074))

theorem roundNearest_eq (x d : Slot) : roundNearest x d = (nearestResult x).getD d := by
  rw [roundNearest, nearestResult, unpack64_fadd_draw x Num.half64 d 0#64]
  cases Num.unpack64 (Num.fadd x Num.half64 0#64) with
  | nan => rfl
  | inf s => rfl
  | fin s m =>
    by_cases hfits : Num.fitsI64 (Num.floorInt s m) = true
    · simp only [if_pos hfits, Option.getD_some]
    · simp only [if_neg hfits, Option.getD_none]

theorem roundIntegral_eq (dir : Num.Direction) (x d : Slot) :
    Num.roundIntegral dir x d = (integralResult dir x).getD (Num.nan64 d) := by
  rw [Num.roundIntegral, integralResult]
  cases Num.unpack64 x <;> rfl

/-- The argument and the four results of a row of the table; `none` where it has `draw64()` or some NaN. -/
abbrev RoundingRow := Slot × Option Slot × Option Slot × Option Slot × Option Slot

/-- The table of R302. -/
def roundingRows : List RoundingRow := [
  (0x4006000000000000#64, some 0x4008000000000000#64, some 0x4000000000000000#64, some 0x4008000000000000#64, some 0x4000000000000000#64),
  (0x4004000000000000#64, some 0x4008000000000000#64, some 0x4000000000000000#64, some 0x4008000000000000#64, some 0x4000000000000000#64),
  (0x4002000000000000#64, some 0x4000000000000000#64, some 0x4000000000000000#64, some 0x4008000000000000#64, some 0x4000000000000000#64),
  (0x3FF8000000000000#64, some 0x4000000000000000#64, some 0x3FF0000000000000#64, some 0x4000000000000000#64, some 0x3FF0000000000000#64),
  (0x3FE0000000000000#64, some 0x3FF0000000000000#64, some 0x0000000000000000#64, some 0x3FF0000000000000#64, some 0x0000000000000000#64),
  (0x3FD0000000000000#64, some 0x0000000000000000#64, some 0x0000000000000000#64, some 0x3FF0000000000000#64, some 0x0000000000000000#64),
  (0x0000000000000000#64, some 0x0000000000000000#64, some 0x0000000000000000#64, some 0x0000000000000000#64, some 0x0000000000000000#64),
  (0x8000000000000000#64, some 0x0000000000000000#64, some 0x8000000000000000#64, some 0x8000000000000000#64, some 0x8000000000000000#64),
  (0xBFD0000000000000#64, some 0x0000000000000000#64, some 0xBFF0000000000000#64, some 0x8000000000000000#64, some 0x8000000000000000#64),
  (0xBFE0000000000000#64, some 0x0000000000000000#64, some 0xBFF0000000000000#64, some 0x8000000000000000#64, some 0x8000000000000000#64),
  (0xBFF8000000000000#64, some 0xBFF0000000000000#64, some 0xC000000000000000#64, some 0xBFF0000000000000#64, some 0xBFF0000000000000#64),
  (0xBFFB333333333333#64, some 0xC000000000000000#64, some 0xC000000000000000#64, some 0xBFF0000000000000#64, some 0xBFF0000000000000#64),
  (0xC004000000000000#64, some 0xC000000000000000#64, some 0xC008000000000000#64, some 0xC000000000000000#64, some 0xC000000000000000#64),
  (0xC006000000000000#64, some 0xC008000000000000#64, some 0xC008000000000000#64, some 0xC000000000000000#64, some 0xC000000000000000#64),
  (0x4008000000000000#64, some 0x4008000000000000#64, some 0x4008000000000000#64, some 0x4008000000000000#64, some 0x4008000000000000#64),
  (0x4330000000000001#64, some 0x4330000000000002#64, some 0x4330000000000001#64, some 0x4330000000000001#64, some 0x4330000000000001#64),
  (0x7FF0000000000000#64, none, some 0x7FF0000000000000#64, some 0x7FF0000000000000#64, some 0x7FF0000000000000#64),
  (0x7FF8000000000000#64, none, none, none, none),
  (0x7E37E43C8800759C#64, none, some 0x7E37E43C8800759C#64, some 0x7E37E43C8800759C#64, some 0x7E37E43C8800759C#64)]

/-- Whether the four modes give a row's results. -/
def RoundingRow.holds (r : RoundingRow) : Bool :=
  nearestResult r.1 == r.2.1 && integralResult .down r.1 == r.2.2.1 && integralResult .up r.1 == r.2.2.2.1
    && integralResult .chop r.1 == r.2.2.2.2

theorem roundingRows_hold : roundingRows.all RoundingRow.holds = true := by decide +kernel

/-- A row with a draw in its open places. -/
def RoundingRow.withDraw (d : Slot) (r : RoundingRow) : Slot × Slot × Slot × Slot × Slot :=
  (r.1, r.2.1.getD d, r.2.2.1.getD (Num.nan64 d), r.2.2.2.1.getD (Num.nan64 d), r.2.2.2.2.getD (Num.nan64 d))

/-- `Round` gives the rows of the table, whatever the draw is. -/
theorem round_of_roundingRows {r : RoundingRow} (hr : r ∈ roundingRows) (d : Slot) :
    round r.1 0#2 d = (r.withDraw d).2.1 ∧ round r.1 1#2 d = (r.withDraw d).2.2.1 ∧ round r.1 2#2 d = (r.withDraw d).2.2.2.1
      ∧ round r.1 3#2 d = (r.withDraw d).2.2.2.2 := by
  have hholds := List.all_eq_true.mp roundingRows_hold r hr
  simp only [RoundingRow.holds, Bool.and_eq_true, beq_iff_eq] at hholds
  obtain ⟨⟨⟨hnearest, hdown⟩, hup⟩, hchop⟩ := hholds
  rw [round_nearest, round_down, round_up, round_chop, roundNearest_eq, roundIntegral_eq, roundIntegral_eq, roundIntegral_eq,
    hnearest, hdown, hup, hchop]
  exact ⟨rfl, rfl, rfl, rfl⟩

/-- Settles O42: every draw gives a NaN and every NaN is one's own draw; the rows by the table. -/
theorem roundingTable : Obligations.RoundingTable := by
  refine ⟨fun d => ⟨Num.isNaN_nan64 d, unpack32_nan32 d⟩, fun x => nan64_of_isNaN, fun w => nan32_of_nan, fun d => ?_⟩
  change ∀ p ∈ roundingRows.map (RoundingRow.withDraw d), _
  exact List.forall_mem_map.mpr fun r hr => round_of_roundingRows hr d

end Sys2Proof.Machine
end
